-- ==== Sys2Proof/Word.lean ====
section
/-! DEFINITION. The two widths the spec gives values (00_scope.md R7) and the stimulus word's width (30_encoding.md R80). -/

namespace Sys2Proof

/-- A `u8` of 00_scope.md R7. -/
abbrev Byte := BitVec 8

/-- A `u16` of 00_scope.md R7: register values, device offsets and video-memory addresses. -/
abbrev Half := BitVec 16

/-- The 32-bit stimulus word of 30_encoding.md R80. -/
abbrev StimWord := BitVec 32

end Sys2Proof
end

