-- ==== Sys2Proof/Config.lean ====
section
/-! DEFINITION. The parameters the spec leaves OPEN (00_scope.md R6) and the free values of the model, each uninterpreted. -/

namespace Sys2Proof

/-- The glyph store's hardware variant (00_scope.md R6, `VARIANT`; 10_state.md R36). -/
inductive Variant where
  /-- A store of 8192 bytes. -/
  | rom8k
  /-- A store of 16384 bytes. -/
  | rom16k
deriving DecidableEq, Repr, Inhabited

/-- The parameters of 00_scope.md R6, plus the choice 40_register_bank.md R118 leaves to an implementation. -/
structure Config where
  /-- `VARIANT`. -/
  variant : Variant
  /-- `G`, the glyph store: byte `n` for `n` below the variant's size (10_state.md R36). No byte beyond is ever read. -/
  glyph : Nat → Byte
  /-- `VRAM_SIZE - 1`: the index of the last entry of each video-memory array. DEDUCED: VRAM_SIZE is not 0, since
  20_memory.md R51 gives every address a valid index (log 6). -/
  vramLast : Nat
  /-- `VRAM_BASE` (20_memory.md R51). -/
  vramBase : Half
  /-- `STATUS_BASE` (41_renderer.md R133). -/
  statusBase : Half
  /-- `VRAM_INIT`, the contents of `codes` at power-on (70_reset_and_hazards.md R240). -/
  initCodes : Nat → Byte
  /-- `VRAM_INIT`, the contents of `attrs` at power-on (70_reset_and_hazards.md R240). -/
  initAttrs : Nat → Byte
  /-- Whether this implementation emits the optional Commit diagnostic (40_register_bank.md R118; log 7). -/
  commitTrace : Bool
deriving Inhabited

/-- The parameters of the machine at hand. DESIGN CHOICE (log 6): uninterpreted, so a claim about it holds for every value. -/
opaque Config.machine : Config

/-- The `n`-th drawn byte (00_scope.md R9, `draw u8`). DESIGN CHOICE (log 5): a free value, uninterpreted. -/
opaque Config.draw : Nat → Byte

end Sys2Proof
end

