-- ==== Sys2Proof/Syntax.lean ====
section
/-! DEFINITION. The stimulus, and one constructor of `Instr` per row of spec/opcode_table.json (30_encoding.md R89). -/

namespace Sys2Proof

/-- A stimulus as its collaborator gives it: the 32-bit word and, read for RENDER_FRAME only, the frame number F
beside it (30_encoding.md R80). -/
structure Stimulus where
  word : StimWord
  frame : Nat
deriving DecidableEq, Repr

/-- The stimulus kinds of 30_encoding.md R81, in the order of their codes 0x0 to 0xB. -/
inductive Kind where
  | busRd | busWr | vramCodeWr | vramAttrWr | vramCodeRd | vramAttrRd
  | vblankEdge | kbdIrq | irqAck | reset | renderFrame | powerOn
deriving DecidableEq, Repr

/-- The decoded offsets of the device space, one per row of 20_memory.md R58. -/
inductive BusPort where
  | w1bHi | w1bLo | w1eHi | w1eLo | w2bHi | w2bLo | cstart | cend | cbHi | cbLo | sctrl | unkStatus | bell | vector
deriving DecidableEq, Repr

/-- The block's operations (30_encoding.md R81, R89): `d` is the data byte D, `a` the offset or video-memory address A. -/
inductive Instr where
  /-- WR_W1B_HI, 40_register_bank.md R101. -/
  | wrW1bHi (d : Byte)
  /-- WR_W1B_LO, 40_register_bank.md R102. -/
  | wrW1bLo (d : Byte)
  /-- WR_W1E_HI, 40_register_bank.md R103. -/
  | wrW1eHi (d : Byte)
  /-- WR_W1E_LO, 40_register_bank.md R104. -/
  | wrW1eLo (d : Byte)
  /-- WR_W2B_HI, 40_register_bank.md R105. -/
  | wrW2bHi (d : Byte)
  /-- WR_W2B_LO, 40_register_bank.md R106. -/
  | wrW2bLo (d : Byte)
  /-- WR_CSTART, 40_register_bank.md R107. -/
  | wrCstart (d : Byte)
  /-- WR_CEND, 40_register_bank.md R108. -/
  | wrCend (d : Byte)
  /-- WR_CB_HI, 40_register_bank.md R109. -/
  | wrCbHi (d : Byte)
  /-- WR_CB_LO, 40_register_bank.md R110. -/
  | wrCbLo (d : Byte)
  /-- WR_SCTRL, 40_register_bank.md R111. -/
  | wrSctrl (d : Byte)
  /-- WR_UNK_STATUS, 40_register_bank.md R112. -/
  | wrUnkStatus (d : Byte)
  /-- WR_BELL, 40_register_bank.md R114. -/
  | wrBell (d : Byte)
  /-- WR_VECTOR, 42_vector_latch.md R184. -/
  | wrVector (d : Byte)
  /-- WR_UNMAPPED, 40_register_bank.md R116: any offset 20_memory.md R58 does not list. -/
  | wrUnmapped (a : Half) (d : Byte)
  /-- RD_W1B_HI, 40_register_bank.md R115. -/
  | rdW1bHi
  /-- RD_W1B_LO, 40_register_bank.md R115. -/
  | rdW1bLo
  /-- RD_W1E_HI, 40_register_bank.md R115. -/
  | rdW1eHi
  /-- RD_W1E_LO, 40_register_bank.md R115. -/
  | rdW1eLo
  /-- RD_W2B_HI, 40_register_bank.md R115. -/
  | rdW2bHi
  /-- RD_W2B_LO, 40_register_bank.md R115. -/
  | rdW2bLo
  /-- RD_CSTART, 40_register_bank.md R115. -/
  | rdCstart
  /-- RD_CEND, 40_register_bank.md R115. -/
  | rdCend
  /-- RD_CB_HI, 40_register_bank.md R115. -/
  | rdCbHi
  /-- RD_CB_LO, 40_register_bank.md R115. -/
  | rdCbLo
  /-- RD_SCTRL, 40_register_bank.md R115. -/
  | rdSctrl
  /-- RD_BELL, 40_register_bank.md R115. -/
  | rdBell
  /-- RD_UNK_STATUS, 40_register_bank.md R113. -/
  | rdUnkStatus
  /-- RD_VECTOR, 42_vector_latch.md R183. -/
  | rdVector
  /-- RD_UNMAPPED, 40_register_bank.md R117: any offset 20_memory.md R58 does not list. -/
  | rdUnmapped (a : Half)
  /-- VRAM_CODE_WR, 43_video_memory.md R200. -/
  | vramCodeWr (a : Half) (d : Byte)
  /-- VRAM_ATTR_WR, 43_video_memory.md R201. -/
  | vramAttrWr (a : Half) (d : Byte)
  /-- VRAM_CODE_RD, 43_video_memory.md R202. -/
  | vramCodeRd (a : Half)
  /-- VRAM_ATTR_RD, 43_video_memory.md R203. -/
  | vramAttrRd (a : Half)
  /-- VBLANK_EDGE, 42_vector_latch.md R180: `level` is the new level D[0]. -/
  | vblankEdge (level : Bool)
  /-- KBD_IRQ, 42_vector_latch.md R181. -/
  | kbdIrq
  /-- IRQ_ACK, 42_vector_latch.md R185. -/
  | irqAck
  /-- RESET, 70_reset_and_hazards.md R241. -/
  | reset
  /-- RENDER_FRAME, 41_renderer.md R130: `f` is the frame number F. -/
  | renderFrame (f : Nat)
  /-- POWER_ON, 70_reset_and_hazards.md R240. -/
  | powerOn
deriving DecidableEq, Repr

/-- Why a stimulus word is reserved (30_encoding.md R84 step 1, R85). -/
inductive DecodeError where
  /-- `Z = w[27:24]` is not 0. -/
  | reservedZ
  /-- `K = w[31:28]` is 0xC or more. -/
  | reservedKind
deriving DecidableEq, Repr

/-- One row of the opcode table: a word `w` matches it when `w &&& mask = pattern` (30_encoding.md R84, R89). -/
structure OpcodeRow where
  mnemonic : String
  pattern : StimWord
  mask : StimWord
deriving DecidableEq, Repr

end Sys2Proof
end

