-- ==== Sys2Proof/Machine/AddressMap.lean ====
section
/-! DEFINITION. The address map: the device offsets (20_memory.md R58, R59), the index of a video-memory address
(20_memory.md R51) and the glyph store's size and bank (10_state.md R36, R37). -/

namespace Sys2Proof

/-- The device offset of each decoded port (20_memory.md R58). -/
def BusPort.offset : BusPort → Half
  | .w1bHi => 0x0006
  | .w1bLo => 0x0007
  | .w1eHi => 0x0008
  | .w1eLo => 0x0009
  | .w2bHi => 0x000A
  | .w2bLo => 0x000B
  | .cstart => 0x000D
  | .cend => 0x000E
  | .cbHi => 0x000F
  | .cbLo => 0x0010
  | .sctrl => 0x0021
  | .unkStatus => 0x0042
  | .bell => 0x0060
  | .vector => 0xFFF7

/-- Every decoded port, in the order of 20_memory.md R58. -/
def BusPort.all : List BusPort :=
  [.w1bHi, .w1bLo, .w1eHi, .w1eLo, .w2bHi, .w2bLo, .cstart, .cend, .cbHi, .cbLo, .sctrl, .unkStatus, .bell, .vector]

/-- The port an offset selects: an exact match of all 16 bits, no mirrors (20_memory.md R59; 30_encoding.md R84). -/
def BusPort.ofOffset (a : Half) : Option BusPort :=
  BusPort.all.find? (fun p => p.offset == a)

/-- 20_memory.md R58 lists the offset. -/
def listedOffset (a : Half) : Bool :=
  (BusPort.ofOffset a).isSome

/-- `VRAM_SIZE`, the entries in each video-memory array (00_scope.md R6). -/
def Config.vramSize (c : Config) : Nat :=
  c.vramLast + 1

/-- `idx(a)`: the array index a 16-bit video-memory address selects in both arrays (20_memory.md R51, R52), computed on
integers with a modulus that is never negative (00_scope.md R8). -/
def Config.idx (c : Config) (a : Half) : Nat :=
  (((a.toNat : Int) - (c.vramBase.toNat : Int)) % (c.vramSize : Int)).toNat

/-- The glyph store's size in bytes (10_state.md R36). -/
def Variant.storeSize : Variant → Nat
  | .rom8k => 8192
  | .rom16k => 16384

/-- `bank_offset`, fixed by the variant (10_state.md R37). -/
def Variant.bankOffset : Variant → Nat
  | .rom8k => 0
  | .rom16k => 0x2000

end Sys2Proof
end

