-- ==== Sys2Proof/WellFormed.lean ====
section
/-! DEFINITION. Which terms of `Instr` stand for a stimulus: the unmapped rows are for unlisted offsets only (30_encoding.md R84). -/

namespace Sys2Proof

/-- The instruction is one that decoding can give. Only the two unmapped rows put a condition on an operand: their
offset is not one of 20_memory.md R58 (30_encoding.md R84 steps 3 and 4). Every other field may hold any value. -/
def Instr.wf : Instr → Bool
  | .wrUnmapped a _ => !listedOffset a
  | .rdUnmapped a => !listedOffset a
  | .wrW1bHi _ | .wrW1bLo _ | .wrW1eHi _ | .wrW1eLo _ | .wrW2bHi _ | .wrW2bLo _ => true
  | .wrCstart _ | .wrCend _ | .wrCbHi _ | .wrCbLo _ | .wrSctrl _ | .wrUnkStatus _ | .wrBell _ | .wrVector _ => true
  | .rdW1bHi | .rdW1bLo | .rdW1eHi | .rdW1eLo | .rdW2bHi | .rdW2bLo => true
  | .rdCstart | .rdCend | .rdCbHi | .rdCbLo | .rdSctrl | .rdBell | .rdUnkStatus | .rdVector => true
  | .vramCodeWr _ _ | .vramAttrWr _ _ | .vramCodeRd _ | .vramAttrRd _ => true
  | .vblankEdge _ | .kbdIrq | .irqAck | .reset | .renderFrame _ | .powerOn => true

end Sys2Proof
end

