-- ==== Sys2Proof/Decode.lean ====
section
/-! DEFINITION. Decoding a stimulus word (30_encoding.md R80 to R86), the encoder beside it, the opcode table
(30_encoding.md R89), and the host's view of the decoder. -/

namespace Sys2Proof

/-- `K`, bits 31:28 of the word (30_encoding.md R80). -/
def Stimulus.kindBits (w : Stimulus) : BitVec 4 := w.word.extractLsb' 28 4

/-- `Z`, bits 27:24 of the word (30_encoding.md R80). -/
def Stimulus.zBits (w : Stimulus) : BitVec 4 := w.word.extractLsb' 24 4

/-- `A`, bits 23:8 of the word (30_encoding.md R80). -/
def Stimulus.addr (w : Stimulus) : Half := w.word.extractLsb' 8 16

/-- `D`, bits 7:0 of the word (30_encoding.md R80). -/
def Stimulus.data (w : Stimulus) : Byte := w.word.extractLsb' 0 8

/-- The kind a code selects, none for the reserved codes 0xC to 0xF (30_encoding.md R81). -/
def Kind.ofBits (k : BitVec 4) : Option Kind :=
  match k.toNat with
  | 0x0 => some .busRd
  | 0x1 => some .busWr
  | 0x2 => some .vramCodeWr
  | 0x3 => some .vramAttrWr
  | 0x4 => some .vramCodeRd
  | 0x5 => some .vramAttrRd
  | 0x6 => some .vblankEdge
  | 0x7 => some .kbdIrq
  | 0x8 => some .irqAck
  | 0x9 => some .reset
  | 0xA => some .renderFrame
  | 0xB => some .powerOn
  | _ => none

/-- The code of a kind (30_encoding.md R81). -/
def Kind.bits : Kind → BitVec 4
  | .busRd => 0x0
  | .busWr => 0x1
  | .vramCodeWr => 0x2
  | .vramAttrWr => 0x3
  | .vramCodeRd => 0x4
  | .vramAttrRd => 0x5
  | .vblankEdge => 0x6
  | .kbdIrq => 0x7
  | .irqAck => 0x8
  | .reset => 0x9
  | .renderFrame => 0xA
  | .powerOn => 0xB

/-- The BUS_WR row an offset selects (30_encoding.md R84 steps 3 and 4; 20_memory.md R58). -/
def decodeWrite (a : Half) (d : Byte) : Instr :=
  match BusPort.ofOffset a with
  | some .w1bHi => .wrW1bHi d
  | some .w1bLo => .wrW1bLo d
  | some .w1eHi => .wrW1eHi d
  | some .w1eLo => .wrW1eLo d
  | some .w2bHi => .wrW2bHi d
  | some .w2bLo => .wrW2bLo d
  | some .cstart => .wrCstart d
  | some .cend => .wrCend d
  | some .cbHi => .wrCbHi d
  | some .cbLo => .wrCbLo d
  | some .sctrl => .wrSctrl d
  | some .unkStatus => .wrUnkStatus d
  | some .bell => .wrBell d
  | some .vector => .wrVector d
  | none => .wrUnmapped a d

/-- The BUS_RD row an offset selects (30_encoding.md R84 steps 3 and 4; 20_memory.md R58). -/
def decodeRead (a : Half) : Instr :=
  match BusPort.ofOffset a with
  | some .w1bHi => .rdW1bHi
  | some .w1bLo => .rdW1bLo
  | some .w1eHi => .rdW1eHi
  | some .w1eLo => .rdW1eLo
  | some .w2bHi => .rdW2bHi
  | some .w2bLo => .rdW2bLo
  | some .cstart => .rdCstart
  | some .cend => .rdCend
  | some .cbHi => .rdCbHi
  | some .cbLo => .rdCbLo
  | some .sctrl => .rdSctrl
  | some .unkStatus => .rdUnkStatus
  | some .bell => .rdBell
  | some .vector => .rdVector
  | none => .rdUnmapped a

/-- The operation of a kind, from the fields that kind reads (30_encoding.md R80, R81): for VBLANK_EDGE the level is
D[0], and only RENDER_FRAME reads the frame number. -/
def decodeKind (w : Stimulus) : Kind → Instr
  | .busRd => decodeRead w.addr
  | .busWr => decodeWrite w.addr w.data
  | .vramCodeWr => .vramCodeWr w.addr w.data
  | .vramAttrWr => .vramAttrWr w.addr w.data
  | .vramCodeRd => .vramCodeRd w.addr
  | .vramAttrRd => .vramAttrRd w.addr
  | .vblankEdge => .vblankEdge (w.data.getLsbD 0)
  | .kbdIrq => .kbdIrq
  | .irqAck => .irqAck
  | .reset => .reset
  | .renderFrame => .renderFrame w.frame
  | .powerOn => .powerOn

/-- Decoding, total on every 32-bit word; a reserved word is rejected by name (30_encoding.md R84, R85). -/
def decode (w : Stimulus) : Except DecodeError Instr :=
  if w.zBits ≠ 0 then .error .reservedZ
  else
    match Kind.ofBits w.kindBits with
    | some k => .ok (decodeKind w k)
    | none => .error .reservedKind

/-- The bits of the word a kind reads: K and Z always, A and D where the kind uses them; the rest are don't-care bits
(30_encoding.md R80, R84). -/
def Kind.usedBits : Kind → StimWord
  | .busRd | .vramCodeRd | .vramAttrRd => 0xFFFFFF00
  | .busWr | .vramCodeWr | .vramAttrWr => 0xFFFFFFFF
  | .vblankEdge => 0xFF000001
  | .kbdIrq | .irqAck | .reset | .renderFrame | .powerOn => 0xFF000000

/-- A word from its fields, Z being 0 (30_encoding.md R80, R87 `0xKZAAAADD`). -/
def stimulusWord (k : Kind) (a : Half) (d : Byte) : StimWord :=
  k.bits ++ 0#4 ++ a ++ d

/-- The fields an operation is written with, ignored fields being 0 (30_encoding.md R87). -/
def Instr.fields : Instr → Kind × Half × Byte
  | .wrW1bHi d => (.busWr, BusPort.offset .w1bHi, d)
  | .wrW1bLo d => (.busWr, BusPort.offset .w1bLo, d)
  | .wrW1eHi d => (.busWr, BusPort.offset .w1eHi, d)
  | .wrW1eLo d => (.busWr, BusPort.offset .w1eLo, d)
  | .wrW2bHi d => (.busWr, BusPort.offset .w2bHi, d)
  | .wrW2bLo d => (.busWr, BusPort.offset .w2bLo, d)
  | .wrCstart d => (.busWr, BusPort.offset .cstart, d)
  | .wrCend d => (.busWr, BusPort.offset .cend, d)
  | .wrCbHi d => (.busWr, BusPort.offset .cbHi, d)
  | .wrCbLo d => (.busWr, BusPort.offset .cbLo, d)
  | .wrSctrl d => (.busWr, BusPort.offset .sctrl, d)
  | .wrUnkStatus d => (.busWr, BusPort.offset .unkStatus, d)
  | .wrBell d => (.busWr, BusPort.offset .bell, d)
  | .wrVector d => (.busWr, BusPort.offset .vector, d)
  | .wrUnmapped a d => (.busWr, a, d)
  | .rdW1bHi => (.busRd, BusPort.offset .w1bHi, 0)
  | .rdW1bLo => (.busRd, BusPort.offset .w1bLo, 0)
  | .rdW1eHi => (.busRd, BusPort.offset .w1eHi, 0)
  | .rdW1eLo => (.busRd, BusPort.offset .w1eLo, 0)
  | .rdW2bHi => (.busRd, BusPort.offset .w2bHi, 0)
  | .rdW2bLo => (.busRd, BusPort.offset .w2bLo, 0)
  | .rdCstart => (.busRd, BusPort.offset .cstart, 0)
  | .rdCend => (.busRd, BusPort.offset .cend, 0)
  | .rdCbHi => (.busRd, BusPort.offset .cbHi, 0)
  | .rdCbLo => (.busRd, BusPort.offset .cbLo, 0)
  | .rdSctrl => (.busRd, BusPort.offset .sctrl, 0)
  | .rdUnkStatus => (.busRd, BusPort.offset .unkStatus, 0)
  | .rdBell => (.busRd, BusPort.offset .bell, 0)
  | .rdVector => (.busRd, BusPort.offset .vector, 0)
  | .rdUnmapped a => (.busRd, a, 0)
  | .vramCodeWr a d => (.vramCodeWr, a, d)
  | .vramAttrWr a d => (.vramAttrWr, a, d)
  | .vramCodeRd a => (.vramCodeRd, a, 0)
  | .vramAttrRd a => (.vramAttrRd, a, 0)
  | .vblankEdge level => (.vblankEdge, 0, if level then 1 else 0)
  | .kbdIrq => (.kbdIrq, 0, 0)
  | .irqAck => (.irqAck, 0, 0)
  | .reset => (.reset, 0, 0)
  | .renderFrame _ => (.renderFrame, 0, 0)
  | .powerOn => (.powerOn, 0, 0)

/-- The frame number given beside the word: F for RENDER_FRAME, 0 (never read) for the others (30_encoding.md R80). -/
def Instr.frameNumber : Instr → Nat
  | .renderFrame f => f
  | .wrW1bHi _ | .wrW1bLo _ | .wrW1eHi _ | .wrW1eLo _ | .wrW2bHi _ | .wrW2bLo _ => 0
  | .wrCstart _ | .wrCend _ | .wrCbHi _ | .wrCbLo _ | .wrSctrl _ | .wrUnkStatus _ => 0
  | .wrBell _ | .wrVector _ | .wrUnmapped _ _ | .rdW1bHi | .rdW1bLo | .rdW1eHi => 0
  | .rdW1eLo | .rdW2bHi | .rdW2bLo | .rdCstart | .rdCend | .rdCbHi => 0
  | .rdCbLo | .rdSctrl | .rdBell | .rdUnkStatus | .rdVector | .rdUnmapped _ => 0
  | .vramCodeWr _ _ | .vramAttrWr _ _ | .vramCodeRd _ | .vramAttrRd _ | .vblankEdge _ | .kbdIrq => 0
  | .irqAck | .reset | .powerOn => 0

/-- The stimulus of an operation (30_encoding.md R80, R87). -/
def encode (i : Instr) : Stimulus :=
  { word := stimulusWord i.fields.1 i.fields.2.1 i.fields.2.2, frame := i.frameNumber }

/-- The opcode table's name of an operation (30_encoding.md R89). -/
def Instr.mnemonic : Instr → String
  | .wrW1bHi _ => "WR_W1B_HI"
  | .wrW1bLo _ => "WR_W1B_LO"
  | .wrW1eHi _ => "WR_W1E_HI"
  | .wrW1eLo _ => "WR_W1E_LO"
  | .wrW2bHi _ => "WR_W2B_HI"
  | .wrW2bLo _ => "WR_W2B_LO"
  | .wrCstart _ => "WR_CSTART"
  | .wrCend _ => "WR_CEND"
  | .wrCbHi _ => "WR_CB_HI"
  | .wrCbLo _ => "WR_CB_LO"
  | .wrSctrl _ => "WR_SCTRL"
  | .wrUnkStatus _ => "WR_UNK_STATUS"
  | .wrBell _ => "WR_BELL"
  | .wrVector _ => "WR_VECTOR"
  | .wrUnmapped _ _ => "WR_UNMAPPED"
  | .rdW1bHi => "RD_W1B_HI"
  | .rdW1bLo => "RD_W1B_LO"
  | .rdW1eHi => "RD_W1E_HI"
  | .rdW1eLo => "RD_W1E_LO"
  | .rdW2bHi => "RD_W2B_HI"
  | .rdW2bLo => "RD_W2B_LO"
  | .rdCstart => "RD_CSTART"
  | .rdCend => "RD_CEND"
  | .rdCbHi => "RD_CB_HI"
  | .rdCbLo => "RD_CB_LO"
  | .rdSctrl => "RD_SCTRL"
  | .rdBell => "RD_BELL"
  | .rdUnkStatus => "RD_UNK_STATUS"
  | .rdVector => "RD_VECTOR"
  | .rdUnmapped _ => "RD_UNMAPPED"
  | .vramCodeWr _ _ => "VRAM_CODE_WR"
  | .vramAttrWr _ _ => "VRAM_ATTR_WR"
  | .vramCodeRd _ => "VRAM_CODE_RD"
  | .vramAttrRd _ => "VRAM_ATTR_RD"
  | .vblankEdge _ => "VBLANK_EDGE"
  | .kbdIrq => "KBD_IRQ"
  | .irqAck => "IRQ_ACK"
  | .reset => "RESET"
  | .renderFrame _ => "RENDER_FRAME"
  | .powerOn => "POWER_ON"

/-- The BUS_WR rows (30_encoding.md R89). -/
def opcodeRowsWrite : List OpcodeRow :=
  [⟨"WR_W1B_HI", 0x10000600, 0xFFFFFF00⟩,
   ⟨"WR_W1B_LO", 0x10000700, 0xFFFFFF00⟩,
   ⟨"WR_W1E_HI", 0x10000800, 0xFFFFFF00⟩,
   ⟨"WR_W1E_LO", 0x10000900, 0xFFFFFF00⟩,
   ⟨"WR_W2B_HI", 0x10000A00, 0xFFFFFF00⟩,
   ⟨"WR_W2B_LO", 0x10000B00, 0xFFFFFF00⟩,
   ⟨"WR_CSTART", 0x10000D00, 0xFFFFFF00⟩,
   ⟨"WR_CEND", 0x10000E00, 0xFFFFFF00⟩,
   ⟨"WR_CB_HI", 0x10000F00, 0xFFFFFF00⟩,
   ⟨"WR_CB_LO", 0x10001000, 0xFFFFFF00⟩,
   ⟨"WR_SCTRL", 0x10002100, 0xFFFFFF00⟩,
   ⟨"WR_UNK_STATUS", 0x10004200, 0xFFFFFF00⟩,
   ⟨"WR_BELL", 0x10006000, 0xFFFFFF00⟩,
   ⟨"WR_VECTOR", 0x10FFF700, 0xFFFFFF00⟩,
   ⟨"WR_UNMAPPED", 0x10000000, 0xFF000000⟩]

/-- The BUS_RD rows (30_encoding.md R89). -/
def opcodeRowsRead : List OpcodeRow :=
  [⟨"RD_W1B_HI", 0x00000600, 0xFFFFFF00⟩,
   ⟨"RD_W1B_LO", 0x00000700, 0xFFFFFF00⟩,
   ⟨"RD_W1E_HI", 0x00000800, 0xFFFFFF00⟩,
   ⟨"RD_W1E_LO", 0x00000900, 0xFFFFFF00⟩,
   ⟨"RD_W2B_HI", 0x00000A00, 0xFFFFFF00⟩,
   ⟨"RD_W2B_LO", 0x00000B00, 0xFFFFFF00⟩,
   ⟨"RD_CSTART", 0x00000D00, 0xFFFFFF00⟩,
   ⟨"RD_CEND", 0x00000E00, 0xFFFFFF00⟩,
   ⟨"RD_CB_HI", 0x00000F00, 0xFFFFFF00⟩,
   ⟨"RD_CB_LO", 0x00001000, 0xFFFFFF00⟩,
   ⟨"RD_SCTRL", 0x00002100, 0xFFFFFF00⟩,
   ⟨"RD_BELL", 0x00006000, 0xFFFFFF00⟩,
   ⟨"RD_UNK_STATUS", 0x00004200, 0xFFFFFF00⟩,
   ⟨"RD_VECTOR", 0x00FFF700, 0xFFFFFF00⟩,
   ⟨"RD_UNMAPPED", 0x00000000, 0xFF000000⟩]

/-- The video-memory and event rows (30_encoding.md R89). -/
def opcodeRowsOther : List OpcodeRow :=
  [⟨"VRAM_CODE_WR", 0x20000000, 0xFF000000⟩,
   ⟨"VRAM_ATTR_WR", 0x30000000, 0xFF000000⟩,
   ⟨"VRAM_CODE_RD", 0x40000000, 0xFF000000⟩,
   ⟨"VRAM_ATTR_RD", 0x50000000, 0xFF000000⟩,
   ⟨"VBLANK_EDGE", 0x60000000, 0xFF000000⟩,
   ⟨"KBD_IRQ", 0x70000000, 0xFF000000⟩,
   ⟨"IRQ_ACK", 0x80000000, 0xFF000000⟩,
   ⟨"RESET", 0x90000000, 0xFF000000⟩,
   ⟨"RENDER_FRAME", 0xA0000000, 0xFF000000⟩,
   ⟨"POWER_ON", 0xB0000000, 0xFF000000⟩]

/-- The opcode table: 40 rows, one per operation (30_encoding.md R89). -/
def opcodeTable : List OpcodeRow :=
  opcodeRowsWrite ++ opcodeRowsRead ++ opcodeRowsOther

/-- The word matches the row (30_encoding.md R84, R89). -/
def OpcodeRow.accepts (r : OpcodeRow) (w : StimWord) : Bool :=
  w &&& r.mask == r.pattern

/-- How many bits the row's mask has set: among the rows that match, the one with the most wins (30_encoding.md R84). -/
def OpcodeRow.specificity (r : OpcodeRow) : Nat :=
  ((List.range 32).filter (fun n => r.mask.getLsbD n)).length

/-- The stimulus whose word has the bits `w`, numbered as the opcode table numbers them. A row has 32 bits and the
frame number stands beside the word, so it is among the bits above `nbits`, which are 0 (log 1). -/
def stimulusOfBits (nbits w : Nat) : Stimulus :=
  { word := BitVec.ofNat 32 (w % 2 ^ nbits), frame := 0 }

/-- The instruction the decoder reads from a word whose bits are `w`, none where it refuses. -/
def decodeTableWord (nbits w : Nat) : Option Instr :=
  match decode (stimulusOfBits nbits w) with
  | .ok i => some i
  | .error _ => none

end Sys2Proof
end

