-- ==== Sys2Proof/Machine/State.lean ====
section
/-! DEFINITION. The block's state (10_state.md R20), the model's own fields beside it, the reset state (10_state.md R40)
and the reasons a step can stop. -/

namespace Sys2Proof.Machine

/-- A video-memory array: the entries that differ from `VRAM_INIT`, as (index, byte) pairs, indexes strictly rising
(log 8). -/
abbrev Memory := List Host.Cell

/-- The pixel grid of one frame: 234 pixel rows from the top, each of 480 pixels from the left, a pixel on or off
(41_renderer.md R131, R149). -/
abbrev Grid := List (List Bool)

/-- The two-phase 16-bit registers (40_register_bank.md R100). -/
inductive WordReg where
  | window1Base | window1End | window2Base | cursorBase
deriving DecidableEq, Repr

/-- The single-byte control registers (40_register_bank.md section 2). -/
inductive ByteReg where
  | cursorStart | cursorEnd | screenCtrl | unkStatus | bellCtrl
deriving DecidableEq, Repr

/-- What a stimulus returns or emits (00_scope.md R9). -/
inductive Output where
  /-- `return v`: the data byte of a read. -/
  | data (v : Byte)
  /-- `emit Irq(b)`: the interrupt-request line. -/
  | irq (b : Bool)
  /-- `emit Beep(b)`: the beeper enable. -/
  | beep (b : Bool)
  /-- `emit Commit(reg, v)`: the optional diagnostic of 40_register_bank.md R118. -/
  | commit (r : WordReg) (v : Half)
  /-- The grid RENDER_FRAME hands to the display collaborator (41_renderer.md R130). -/
  | frame (g : Grid)
deriving DecidableEq, Repr

/-- The state: the components of 10_state.md R20, then three fields of the model's own. -/
structure State where
  /-- `window1_base` (10_state.md R24). -/
  window1Base : Half
  /-- `window1_end` (10_state.md R25). -/
  window1End : Half
  /-- `window2_base` (10_state.md R26). -/
  window2Base : Half
  /-- `cursor_base` (10_state.md R27). -/
  cursorBase : Half
  /-- `cursor_start` (10_state.md R28). -/
  cursorStart : Byte
  /-- `cursor_end` (10_state.md R29). -/
  cursorEnd : Byte
  /-- `screen_ctrl` (10_state.md R30). -/
  screenCtrl : Byte
  /-- `unk_status` (10_state.md R31). -/
  unkStatus : Byte
  /-- `bell_ctrl` (10_state.md R32). -/
  bellCtrl : Byte
  /-- `vector_latch` (10_state.md R33). -/
  vectorLatch : Byte
  /-- `irq_out` (10_state.md R34). -/
  irqOut : Bool
  /-- `codes` (10_state.md R35). -/
  codes : Memory
  /-- `attrs` (10_state.md R35). -/
  attrs : Memory
  /-- MODEL: the stimuli still to come, the next first (20_memory.md R62; log 1). -/
  inbox : List Stimulus
  /-- MODEL: what the last stimulus returned and emitted, in the order of its pseudocode (log 4). -/
  outputs : List Output
  /-- MODEL: how many bytes have been drawn (00_scope.md R9; log 5). -/
  draws : Nat
deriving DecidableEq, Repr

/-- Reasons to stop with a fault: none. "no stimulus faults" (60_exceptions.md R210), and 41_renderer.md R150 forbids a
model to add one. -/
inductive Fault where
deriving DecidableEq, Repr

/-- Reasons to refuse. -/
inductive Refusal where
  /-- Raised by `exec` for an operation with no meaning yet; no arm raises it. Safe: nothing is claimed of it. -/
  | notModelled (mnemonic : String)
  /-- Raised by `step` for a word that 30_encoding.md R85 reserves and has the model refuse, with the reason decoding
  gives. Safe: such a word "stands for no operation of the hardware". -/
  | reservedStimulus (why : DecodeError) (word : StimWord)
deriving DecidableEq, Repr

/-- The machine right after power-on: the power-on column of 10_state.md R40, both arrays holding `VRAM_INIT` (log 2, 8),
no stimulus waiting, nothing output and nothing drawn yet (DESIGN CHOICE, log 1, 4, 5). -/
def State.reset : State where
  window1Base := 0x0000
  window1End := 0x0000
  window2Base := 0x0000
  cursorBase := 0x0000
  cursorStart := 0x00
  cursorEnd := 0x00
  screenCtrl := 0x00
  unkStatus := 0x00
  bellCtrl := 0x00
  vectorLatch := 0x00
  irqOut := false
  codes := []
  attrs := []
  inbox := []
  outputs := []
  draws := 0

end Sys2Proof.Machine
end

