-- ==== Sys2Proof/Machine/Flags.lean ====
section
/-! DEFINITION. The block has no status flags (10_state.md R23); this file holds the named bits of its control registers
and of an attribute byte, and the blink phase. -/

namespace Sys2Proof.Machine

/-- `CV`, the cursor-visible bit of `cursor_start` (10_state.md R28). -/
def State.cursorVisible (s : State) : Bool :=
  s.cursorStart.getLsbD 5

/-- `CS`, the first active scanline of the cursor (10_state.md R28). -/
def State.cursorFirst (s : State) : Nat :=
  (s.cursorStart &&& 0x0F).toNat

/-- `CE`, the exclusive end of the cursor's scanline range (10_state.md R29; 90_conflicts.md C2). -/
def State.cursorStop (s : State) : Nat :=
  (s.cursorEnd &&& 0x0F).toNat

/-- `INV`, the whole-screen polarity invert (10_state.md R30). -/
def State.invert (s : State) : Bool :=
  s.screenCtrl.getLsbD 5

/-- `STEADY`, the bit of `screen_ctrl` that keeps the cursor from blinking (10_state.md R30). -/
def State.steady (s : State) : Bool :=
  s.screenCtrl.getLsbD 4

/-- The beeper output, at all times bit 2 of `bell_ctrl` (10_state.md R32). -/
def State.beeper (s : State) : Bool :=
  s.bellCtrl.getLsbD 2

/-- Conceal, bit 3 of an effective attribute (41_renderer.md R137). -/
def effConceal (eff : Byte) : Bool :=
  eff.getLsbD 3

/-- Reverse, bit 4 of an effective attribute (41_renderer.md R137). -/
def effReverse (eff : Byte) : Bool :=
  eff.getLsbD 4

/-- Blink, bit 6 of an effective attribute (41_renderer.md R137). Bit 5, underline, is a no-op and has no reader (R142). -/
def effBlink (eff : Byte) : Bool :=
  eff.getLsbD 6

/-- The blink phase of frame `f`: `(F & 0x20) != 0` (41_renderer.md R138, the spec's decision D10; log 11). -/
def blinkOn (f : Nat) : Bool :=
  (f &&& 0x20) != 0

/-- A character code that is a sentinel (41_renderer.md R136). -/
def isSentinel (code : Byte) : Bool :=
  code == 0xC0 || code == 0xE8

end Sys2Proof.Machine
end

