-- ==== Sys2Proof/Machine/Operands.lean ====
section
/-! DEFINITION. The operand forms: a byte placed in a half of a 16-bit register (30_encoding.md R83), the registers by
name, and truncating division (00_scope.md R8). -/

namespace Sys2Proof.Machine

/-- The high-port write `(reg & 0x00FF) | (D << 8)` (40_register_bank.md R100). -/
def setHighByte (v : Half) (d : Byte) : Half :=
  (v &&& 0x00FF) ||| (d.setWidth 16 <<< 8)

/-- The low-port write `(reg & 0xFF00) | D` (40_register_bank.md R100). -/
def setLowByte (v : Half) (d : Byte) : Half :=
  (v &&& 0xFF00) ||| d.setWidth 16

/-- `trunc_div(n, d)`: the quotient rounded toward zero (00_scope.md R8). -/
def truncDiv (n d : Int) : Int :=
  Int.tdiv n d

/-- The value of a two-phase register. -/
def State.getWord (s : State) : WordReg → Half
  | .window1Base => s.window1Base
  | .window1End => s.window1End
  | .window2Base => s.window2Base
  | .cursorBase => s.cursorBase

/-- The one way a two-phase register is given a value; every bit is stored (10_state.md R42). -/
def State.setWord (s : State) (r : WordReg) (v : Half) : State :=
  match r with
  | .window1Base => { s with window1Base := v }
  | .window1End => { s with window1End := v }
  | .window2Base => { s with window2Base := v }
  | .cursorBase => { s with cursorBase := v }

/-- The value of a single-byte register. -/
def State.getByte (s : State) : ByteReg → Byte
  | .cursorStart => s.cursorStart
  | .cursorEnd => s.cursorEnd
  | .screenCtrl => s.screenCtrl
  | .unkStatus => s.unkStatus
  | .bellCtrl => s.bellCtrl

/-- The one way a single-byte register is given a value; every bit is stored (10_state.md R42). -/
def State.setByte (s : State) (r : ByteReg) (v : Byte) : State :=
  match r with
  | .cursorStart => { s with cursorStart := v }
  | .cursorEnd => { s with cursorEnd := v }
  | .screenCtrl => { s with screenCtrl := v }
  | .unkStatus => { s with unkStatus := v }
  | .bellCtrl => { s with bellCtrl := v }

end Sys2Proof.Machine
end

