-- ==== Sys2Proof/Machine/Ops.lean ====
section
/-! DEFINITION. The named operations over memory, registers, the interrupt line and the outputs, over which every meaning
is written, and taking the next stimulus. -/

namespace Sys2Proof.Machine

/-! Video memory: a list of the entries that differ from `VRAM_INIT` (log 8). -/

/-- The byte at index `i`: the listed one, else what `VRAM_INIT` holds there (43_video_memory.md R202). -/
def Memory.read (init : Nat → Byte) (m : Memory) (i : Nat) : Byte :=
  match m with
  | [] => init i
  | (k, v) :: rest => if k = i then v else Memory.read init rest i

/-- Lists the byte `v` at index `i`, keeping the indexes rising. -/
def Memory.put (m : Memory) (i : Nat) (v : Byte) : Memory :=
  match m with
  | [] => [(i, v)]
  | (k, w) :: rest =>
    if i < k then (i, v) :: (k, w) :: rest
    else if i = k then (i, v) :: rest
    else (k, w) :: Memory.put rest i v

/-- Lists nothing at index `i`. -/
def Memory.erase (m : Memory) (i : Nat) : Memory :=
  m.filter (fun e => e.1 != i)

/-- Writes `v` at index `i`; an entry equal to `VRAM_INIT` is not listed, so equal contents are equal lists. -/
def Memory.write (init : Nat → Byte) (m : Memory) (i : Nat) (v : Byte) : Memory :=
  if v = init i then m.erase i else m.put i v

/-- Every listed index is `lo` or more, and the indexes strictly rise. -/
def Memory.risingFrom (lo : Nat) (m : Memory) : Bool :=
  match m with
  | [] => true
  | (k, _) :: rest => decide (lo ≤ k) && Memory.risingFrom (k + 1) rest

/-- The canonical form: indexes strictly rising and within the array, no entry equal to `VRAM_INIT`. -/
def Memory.wf (size : Nat) (init : Nat → Byte) (m : Memory) : Bool :=
  m.risingFrom 0 && m.all (fun e => decide (e.1 < size) && e.2 != init e.1)

/-- `codes[idx(a)]` (20_memory.md R51, R52). -/
def State.loadCode (c : Config) (s : State) (a : Half) : Byte :=
  s.codes.read c.initCodes (c.idx a)

/-- `attrs[idx(a)]` (20_memory.md R51, R52). -/
def State.loadAttr (c : Config) (s : State) (a : Half) : Byte :=
  s.attrs.read c.initAttrs (c.idx a)

/-- `codes[idx(a)] <- d` (43_video_memory.md R200). -/
def State.storeCode (c : Config) (s : State) (a : Half) (d : Byte) : State :=
  { s with codes := s.codes.write c.initCodes (c.idx a) d }

/-- `attrs[idx(a)] <- d` (43_video_memory.md R201). -/
def State.storeAttr (c : Config) (s : State) (a : Half) (d : Byte) : State :=
  { s with attrs := s.attrs.write c.initAttrs (c.idx a) d }

/-! Outputs. -/

/-- What this stimulus returns and emits takes the place of what the last one did (log 4). -/
def State.drive (s : State) (os : List Output) : State :=
  { s with outputs := os }

/-- `return draw u8`: any byte, a fresh one each time, and no other change (40_register_bank.md R115; log 5). -/
def State.returnDraw (s : State) : State :=
  { s with draws := s.draws + 1, outputs := [.data (Config.draw s.draws)] }

/-- `emit Commit(reg, v)` where the implementation has the diagnostic (40_register_bank.md R118; log 7). -/
def commitOutputs (c : Config) (r : WordReg) (v : Half) : List Output :=
  if c.commitTrace then [.commit r v] else []

/-! Register writes. -/

/-- The high-port write of a two-phase register: at once, the low byte kept (40_register_bank.md R100). -/
def State.writeHigh (s : State) (r : WordReg) (d : Byte) : State :=
  (s.setWord r (setHighByte (s.getWord r) d)).drive []

/-- The low-port write of a two-phase register: at once, the high byte kept, with the Commit diagnostic
(40_register_bank.md R100, R118). -/
def State.writeLow (c : Config) (s : State) (r : WordReg) (d : Byte) : State :=
  (s.setWord r (setLowByte (s.getWord r) d)).drive (commitOutputs c r (setLowByte (s.getWord r) d))

/-- The write of a single-byte register: stored verbatim, with what it emits (40_register_bank.md R119). -/
def State.writeByte (s : State) (r : ByteReg) (d : Byte) (os : List Output) : State :=
  (s.setByte r d).drive os

/-! Interrupts: entry and return on the block's side. -/

/-- The cause a vertical-blank edge leaves in the latch (60_exceptions.md R211). -/
def vblankCause : Byte := 0x10

/-- The cause a keyboard event leaves in the latch (60_exceptions.md R211). -/
def keyboardCause : Byte := 0x14

/-- Interrupt entry, on the block's side the whole of what an event does: the latch takes the cause, whatever it held,
and the line is asserted (60_exceptions.md R215; 42_vector_latch.md R182). -/
def State.enterInterrupt (s : State) (cause : Byte) : State :=
  { s with vectorLatch := cause, irqOut := true, outputs := [.irq true] }

/-- Interrupt return, the line's part: the CPU's service clears the line and leaves the latch (60_exceptions.md R216;
42_vector_latch.md R185). -/
def State.serviceInterrupt (s : State) : State :=
  { s with irqOut := false, outputs := [.irq false] }

/-- Interrupt return, the latch's part: the read returns the cause and clears it, in one step, and leaves the line
(60_exceptions.md R216; 42_vector_latch.md R183). -/
def State.consumeCause (s : State) : State :=
  { s with vectorLatch := 0x00, outputs := [.data s.vectorLatch] }

/-! The whole block. -/

/-- Machine reset: the latch and the line only (70_reset_and_hazards.md R241). -/
def State.machineReset (s : State) : State :=
  { s with vectorLatch := 0x00, irqOut := false, outputs := [.irq false] }

/-- Power-on: every component of the block at its power-on value (70_reset_and_hazards.md R240), the collaborators'
stimuli and the count of drawn bytes kept (log 1, 5). -/
def State.powerUp (s : State) : State :=
  { State.reset with inbox := s.inbox, draws := s.draws, outputs := [.irq false, .beep false] }

/-! Stimuli. -/

/-- The next stimulus and the state without it, none when no stimulus waits (20_memory.md R62; log 1). -/
def State.takeStimulus (s : State) : Option (Stimulus × State) :=
  match s.inbox with
  | [] => none
  | w :: rest => some (w, { s with inbox := rest })

/-- The state with one more stimulus, to come before those that wait. -/
def State.offerStimulus (s : State) (w : Stimulus) : State :=
  { s with inbox := w :: s.inbox }

end Sys2Proof.Machine
end

