-- ==== Sys2Proof/Machine/RegisterBank.lean ====
section
/-! DEFINITION. The bus accesses of the control register bank (40_register_bank.md). -/

namespace Sys2Proof.Machine

/-- WR_W1B_HI: the high byte of `window1_base` (40_register_bank.md R101). -/
def execWrW1bHi (d : Byte) (s : State) : Host.Outcome State Fault Refusal :=
  .next (s.writeHigh .window1Base d)

/-- WR_W1B_LO: the low byte of `window1_base`, with the Commit diagnostic (40_register_bank.md R102). -/
def execWrW1bLo (d : Byte) (s : State) : Host.Outcome State Fault Refusal :=
  .next (s.writeLow Config.machine .window1Base d)

/-- WR_W1E_HI: the high byte of `window1_end` (40_register_bank.md R103). -/
def execWrW1eHi (d : Byte) (s : State) : Host.Outcome State Fault Refusal :=
  .next (s.writeHigh .window1End d)

/-- WR_W1E_LO: the low byte of `window1_end`, with the Commit diagnostic (40_register_bank.md R104). -/
def execWrW1eLo (d : Byte) (s : State) : Host.Outcome State Fault Refusal :=
  .next (s.writeLow Config.machine .window1End d)

/-- WR_W2B_HI: the high byte of `window2_base` (40_register_bank.md R105). -/
def execWrW2bHi (d : Byte) (s : State) : Host.Outcome State Fault Refusal :=
  .next (s.writeHigh .window2Base d)

/-- WR_W2B_LO: the low byte of `window2_base`, with the Commit diagnostic (40_register_bank.md R106). -/
def execWrW2bLo (d : Byte) (s : State) : Host.Outcome State Fault Refusal :=
  .next (s.writeLow Config.machine .window2Base d)

/-- WR_CB_HI: the high byte of `cursor_base` (40_register_bank.md R109). -/
def execWrCbHi (d : Byte) (s : State) : Host.Outcome State Fault Refusal :=
  .next (s.writeHigh .cursorBase d)

/-- WR_CB_LO: the low byte of `cursor_base`, with the Commit diagnostic (40_register_bank.md R110). -/
def execWrCbLo (d : Byte) (s : State) : Host.Outcome State Fault Refusal :=
  .next (s.writeLow Config.machine .cursorBase d)

/-- WR_CSTART: `cursor_start <- D` (40_register_bank.md R107). -/
def execWrCstart (d : Byte) (s : State) : Host.Outcome State Fault Refusal :=
  .next (s.writeByte .cursorStart d [])

/-- WR_CEND: `cursor_end <- D` (40_register_bank.md R108). -/
def execWrCend (d : Byte) (s : State) : Host.Outcome State Fault Refusal :=
  .next (s.writeByte .cursorEnd d [])

/-- WR_SCTRL: `screen_ctrl <- D` (40_register_bank.md R111). -/
def execWrSctrl (d : Byte) (s : State) : Host.Outcome State Fault Refusal :=
  .next (s.writeByte .screenCtrl d [])

/-- WR_UNK_STATUS: `unk_status <- D` (40_register_bank.md R112). -/
def execWrUnkStatus (d : Byte) (s : State) : Host.Outcome State Fault Refusal :=
  .next (s.writeByte .unkStatus d [])

/-- WR_BELL: `bell_ctrl <- D`, and the beeper output follows D[2] (40_register_bank.md R114, the spec's decision D15). -/
def execWrBell (d : Byte) (s : State) : Host.Outcome State Fault Refusal :=
  .next (s.writeByte .bellCtrl d [.beep (d.getLsbD 2)])

/-- RD_UNK_STATUS: `unk_status | 0x04`, the register unchanged (40_register_bank.md R113). -/
def execRdUnkStatus (s : State) : Host.Outcome State Fault Refusal :=
  .next (s.drive [.data (s.unkStatus ||| 0x04)])

/-- WR_UNMAPPED: no change and no output (40_register_bank.md R116, the spec's decision D3; log 10). -/
def execWrUnmapped (_a : Half) (_d : Byte) (s : State) : Host.Outcome State Fault Refusal :=
  .next (s.drive [])

/-- RD_UNMAPPED: a fresh draw (40_register_bank.md R117, the spec's decision D4; log 5). -/
def execRdUnmapped (_a : Half) (s : State) : Host.Outcome State Fault Refusal :=
  .next s.returnDraw

/-- RD_W1B_HI: a write-only offset, read: a fresh draw, not the register (40_register_bank.md R115, D4; log 5). -/
def execRdW1bHi (s : State) : Host.Outcome State Fault Refusal :=
  .next s.returnDraw

/-- RD_W1B_LO: a write-only offset, read: a fresh draw, not the register (40_register_bank.md R115, D4; log 5). -/
def execRdW1bLo (s : State) : Host.Outcome State Fault Refusal :=
  .next s.returnDraw

/-- RD_W1E_HI: a write-only offset, read: a fresh draw, not the register (40_register_bank.md R115, D4; log 5). -/
def execRdW1eHi (s : State) : Host.Outcome State Fault Refusal :=
  .next s.returnDraw

/-- RD_W1E_LO: a write-only offset, read: a fresh draw, not the register (40_register_bank.md R115, D4; log 5). -/
def execRdW1eLo (s : State) : Host.Outcome State Fault Refusal :=
  .next s.returnDraw

/-- RD_W2B_HI: a write-only offset, read: a fresh draw, not the register (40_register_bank.md R115, D4; log 5). -/
def execRdW2bHi (s : State) : Host.Outcome State Fault Refusal :=
  .next s.returnDraw

/-- RD_W2B_LO: a write-only offset, read: a fresh draw, not the register (40_register_bank.md R115, D4; log 5). -/
def execRdW2bLo (s : State) : Host.Outcome State Fault Refusal :=
  .next s.returnDraw

/-- RD_CSTART: a write-only offset, read: a fresh draw, not the register (40_register_bank.md R115, D4; log 5). -/
def execRdCstart (s : State) : Host.Outcome State Fault Refusal :=
  .next s.returnDraw

/-- RD_CEND: a write-only offset, read: a fresh draw, not the register (40_register_bank.md R115, D4; log 5). -/
def execRdCend (s : State) : Host.Outcome State Fault Refusal :=
  .next s.returnDraw

/-- RD_CB_HI: a write-only offset, read: a fresh draw, not the register (40_register_bank.md R115, D4; log 5). -/
def execRdCbHi (s : State) : Host.Outcome State Fault Refusal :=
  .next s.returnDraw

/-- RD_CB_LO: a write-only offset, read: a fresh draw, not the register (40_register_bank.md R115, D4; log 5). -/
def execRdCbLo (s : State) : Host.Outcome State Fault Refusal :=
  .next s.returnDraw

/-- RD_SCTRL: a write-only offset, read: a fresh draw, not the register (40_register_bank.md R115, D4; log 5). -/
def execRdSctrl (s : State) : Host.Outcome State Fault Refusal :=
  .next s.returnDraw

/-- RD_BELL: a write-only offset, read: a fresh draw, not the register (40_register_bank.md R115, D4; log 5). -/
def execRdBell (s : State) : Host.Outcome State Fault Refusal :=
  .next s.returnDraw

end Sys2Proof.Machine
end

