-- ==== Sys2Proof/Machine/Renderer.lean ====
section
/-! DEFINITION. The renderer (41_renderer.md): RENDER_FRAME and the parts its rules name, in the order of R148. -/

namespace Sys2Proof.Machine

/-- The number of the 24 text rows that window 2 supplies: a signed difference, division toward zero, any sign, not
clamped (41_renderer.md R132, the spec's decision D9; log 11). -/
def State.split (s : State) : Int :=
  24 - truncDiv ((s.window2Base.toNat : Int) - (s.window1Base.toNat : Int)) 80

/-- The source address of cell (y, x), sums modulo 2^16 (41_renderer.md R133, the spec's decision D8; log 11). -/
def sourceAddress (c : Config) (s : State) (y x : Nat) : Half :=
  if y < 24 ∧ (y : Int) < s.split then s.window2Base + BitVec.ofNat 16 (y * 80 + x)
  else if y < 24 then s.window1Base + BitVec.ofInt 16 (((y : Int) - s.split) * 80 + (x : Int))
  else c.statusBase + BitVec.ofNat 16 ((y - 24) * 80 + x)

/-- A fetched cell: its address, code and attribute (41_renderer.md R134). -/
structure Cell where
  addr : Half
  code : Byte
  attr : Byte
deriving DecidableEq, Repr

/-- The cell fetch (41_renderer.md R134). -/
def fetchCell (c : Config) (s : State) (y x : Nat) : Cell :=
  { addr := sourceAddress c s y x
    code := s.loadCode c (sourceAddress c s y x)
    attr := s.loadAttr c (sourceAddress c s y x) }

/-- The line attribute after a cell: a sentinel's attribute replaces it, any other cell keeps it (41_renderer.md R136). -/
def lineAttrAfter (line : Byte) (cell : Cell) : Byte :=
  if isSentinel cell.code then cell.attr else line

/-- The cells of a row from left to right, each with its effective attribute `attr | line_attr`, the line attribute
running along the row (41_renderer.md R135, R136, R137). -/
def shadeCells (line : Byte) : List Cell → List (Cell × Byte)
  | [] => []
  | cell :: rest => (cell, cell.attr ||| lineAttrAfter line cell) :: shadeCells (lineAttrAfter line cell) rest

/-- The glyph-store index of scanline `i` of a code: `bank_offset | ((code << 4) + i)` (41_renderer.md R139). -/
def glyphIndex (v : Variant) (code : Byte) (i : Nat) : Nat :=
  v.bankOffset ||| ((code.toNat <<< 4) + i)

/-- The glyph fetch (41_renderer.md R139). -/
def glyphByte (c : Config) (code : Byte) (i : Nat) : Byte :=
  c.glyph (glyphIndex c.variant code i)

/-- Conceal (41_renderer.md R140). -/
def conceal (eff data : Byte) : Byte :=
  if effConceal eff then 0x00 else data

/-- Reverse (41_renderer.md R141). -/
def reverse (eff data : Byte) : Byte :=
  if effReverse eff then data ^^^ 0xFF else data

/-- Underline: a literal pass-through, bit 5 set or clear (41_renderer.md R142). -/
def underline (_eff data : Byte) : Byte :=
  data

/-- Blink (41_renderer.md R143). -/
def blink (f : Nat) (eff data : Byte) : Byte :=
  if effBlink eff && blinkOn f then 0x00 else data

/-- Sentinel blank (41_renderer.md R144). -/
def sentinelBlank (code data : Byte) : Byte :=
  if isSentinel code then 0x00 else data

/-- The blink phase hides the cursor (41_renderer.md R146). -/
def State.cursorBlanked (s : State) (f : Nat) : Bool :=
  !s.steady && blinkOn f

/-- Scanline `i` of a cell at address `a` in row `y` is a cursor scanline (41_renderer.md R145): the 16-bit address is
compared, and only text rows have the cursor (D8, D12; log 11). -/
def State.cursorHit (s : State) (f : Nat) (y : Nat) (a : Half) (i : Nat) : Bool :=
  s.cursorVisible && a == s.cursorBase && decide (y < 24) && decide (s.cursorFirst ≤ i) && decide (i < s.cursorStop)
    && !s.cursorBlanked f

/-- The cursor overlay (41_renderer.md R145). -/
def cursorOverlay (s : State) (f y : Nat) (a : Half) (i : Nat) (data : Byte) : Byte :=
  if s.cursorHit f y a i then 0xFF else data

/-- The global invert (41_renderer.md R147). -/
def globalInvert (s : State) (data : Byte) : Byte :=
  if s.invert then data ^^^ 0xFF else data

/-- The data byte of scanline `i` of a cell in row `y` after the whole pipeline: glyph, conceal, reverse, underline,
blink, sentinel blank, cursor, invert, in this order (41_renderer.md R148; 90_conflicts.md C3). -/
def scanlineByte (c : Config) (s : State) (f y : Nat) (cell : Cell) (eff : Byte) (i : Nat) : Byte :=
  globalInvert s (cursorOverlay s f y cell.addr i (sentinelBlank cell.code (blink f eff (underline eff (reverse eff
    (conceal eff (glyphByte c cell.code i)))))))

/-- The six pixels of a data byte, bit 7 leftmost; bits 1 and 0 are never shown (41_renderer.md R149). -/
def expandByte (data : Byte) : List Bool :=
  (List.range 6).map (fun b => data.getLsbD (7 - b))

/-- The 80 cells of row `y`, shaded; the line attribute starts at 0x00 in every row (41_renderer.md R135, R148). -/
def shadedRow (c : Config) (s : State) (y : Nat) : List (Cell × Byte) :=
  shadeCells 0x00 ((List.range 80).map (fetchCell c s y))

/-- Pixel row `9*y + i` (41_renderer.md R131, R149), from the shaded cells of row `y`. -/
def pixelRow (c : Config) (s : State) (f y : Nat) (cells : List (Cell × Byte)) (i : Nat) : List Bool :=
  cells.flatMap (fun e => expandByte (scanlineByte c s f y e.1 e.2 i))

/-- The nine pixel rows of cell row `y` (41_renderer.md R131). -/
def cellRow (c : Config) (s : State) (f y : Nat) : List (List Bool) :=
  (List.range 9).map (pixelRow c s f y (shadedRow c s y))

/-- The whole frame, all from the one state `s` (41_renderer.md R148; 20_memory.md R64). -/
def renderFrame (c : Config) (s : State) (f : Nat) : Grid :=
  (List.range 26).flatMap (cellRow c s f)

/-- RENDER_FRAME: the grid is the only output and no state of the block is written (41_renderer.md R130, R151). -/
def execRenderFrame (f : Nat) (s : State) : Host.Outcome State Fault Refusal :=
  .next (s.drive [.frame (renderFrame Config.machine s f)])

end Sys2Proof.Machine
end

