-- ==== Sys2Proof/Machine/ResetEvents.lean ====
section
/-! DEFINITION. Machine reset and power-on (70_reset_and_hazards.md section 1). -/

namespace Sys2Proof.Machine

/-- RESET: the latch and the line; every control register, the beeper byte and the video memory stay
(70_reset_and_hazards.md R241; 90_conflicts.md C1). -/
def execReset (s : State) : Host.Outcome State Fault Refusal :=
  .next s.machineReset

/-- POWER_ON: the initial state, whatever the state before (70_reset_and_hazards.md R240). -/
def execPowerOn (s : State) : Host.Outcome State Fault Refusal :=
  .next s.powerUp

end Sys2Proof.Machine
end

