-- ==== Sys2Proof/Machine/VectorLatch.lean ====
section
/-! DEFINITION. The interrupt vector latch and line (42_vector_latch.md). -/

namespace Sys2Proof.Machine

/-- VBLANK_EDGE: a rising edge enters the interrupt, a falling edge does nothing (42_vector_latch.md R180, D17; log 12). -/
def execVblankEdge (level : Bool) (s : State) : Host.Outcome State Fault Refusal :=
  .next (if level then s.enterInterrupt vblankCause else s.drive [])

/-- KBD_IRQ: every notification enters the interrupt (42_vector_latch.md R181, D18; log 12). -/
def execKbdIrq (s : State) : Host.Outcome State Fault Refusal :=
  .next (s.enterInterrupt keyboardCause)

/-- RD_VECTOR: the read returns and clears the latch (42_vector_latch.md R183). -/
def execRdVector (s : State) : Host.Outcome State Fault Refusal :=
  .next s.consumeCause

/-- WR_VECTOR: neither sets nor clears the latch (42_vector_latch.md R184, the spec's decision D5; log 10). -/
def execWrVector (_d : Byte) (s : State) : Host.Outcome State Fault Refusal :=
  .next (s.drive [])

/-- IRQ_ACK: the CPU's service clears the line (42_vector_latch.md R185, the spec's decision D13; log 12). -/
def execIrqAck (s : State) : Host.Outcome State Fault Refusal :=
  .next s.serviceInterrupt

end Sys2Proof.Machine
end

