-- ==== Sys2Proof/Machine/VideoMemory.lean ====
section
/-! DEFINITION. The CPU collaborator's video-memory accesses (43_video_memory.md). -/

namespace Sys2Proof.Machine

/-- VRAM_CODE_WR: `codes[idx(A)] <- D` (43_video_memory.md R200). -/
def execVramCodeWr (a : Half) (d : Byte) (s : State) : Host.Outcome State Fault Refusal :=
  .next ((s.storeCode Config.machine a d).drive [])

/-- VRAM_ATTR_WR: `attrs[idx(A)] <- D` (43_video_memory.md R201). -/
def execVramAttrWr (a : Half) (d : Byte) (s : State) : Host.Outcome State Fault Refusal :=
  .next ((s.storeAttr Config.machine a d).drive [])

/-- VRAM_CODE_RD: `return codes[idx(A)]` (43_video_memory.md R202). -/
def execVramCodeRd (a : Half) (s : State) : Host.Outcome State Fault Refusal :=
  .next (s.drive [.data (s.loadCode Config.machine a)])

/-- VRAM_ATTR_RD: `return attrs[idx(A)]` (43_video_memory.md R203). -/
def execVramAttrRd (a : Half) (s : State) : Host.Outcome State Fault Refusal :=
  .next (s.drive [.data (s.loadAttr Config.machine a)])

end Sys2Proof.Machine
end

