-- ==== Sys2Proof/Machine/Dispatch.lean ====
section
/-! DEFINITION. The dispatch: one arm per operation, each one direct call of its meaning. -/

namespace Sys2Proof.Machine

def exec (i : Instr) (s : State) : Host.Outcome State Fault Refusal :=
  match i with
  | .wrW1bHi d => Sys2Proof.Machine.execWrW1bHi d s
  | .wrW1bLo d => Sys2Proof.Machine.execWrW1bLo d s
  | .wrW1eHi d => Sys2Proof.Machine.execWrW1eHi d s
  | .wrW1eLo d => Sys2Proof.Machine.execWrW1eLo d s
  | .wrW2bHi d => Sys2Proof.Machine.execWrW2bHi d s
  | .wrW2bLo d => Sys2Proof.Machine.execWrW2bLo d s
  | .wrCstart d => Sys2Proof.Machine.execWrCstart d s
  | .wrCend d => Sys2Proof.Machine.execWrCend d s
  | .wrCbHi d => Sys2Proof.Machine.execWrCbHi d s
  | .wrCbLo d => Sys2Proof.Machine.execWrCbLo d s
  | .wrSctrl d => Sys2Proof.Machine.execWrSctrl d s
  | .wrUnkStatus d => Sys2Proof.Machine.execWrUnkStatus d s
  | .wrBell d => Sys2Proof.Machine.execWrBell d s
  | .wrVector d => Sys2Proof.Machine.execWrVector d s
  | .wrUnmapped a d => Sys2Proof.Machine.execWrUnmapped a d s
  | .rdW1bHi => Sys2Proof.Machine.execRdW1bHi s
  | .rdW1bLo => Sys2Proof.Machine.execRdW1bLo s
  | .rdW1eHi => Sys2Proof.Machine.execRdW1eHi s
  | .rdW1eLo => Sys2Proof.Machine.execRdW1eLo s
  | .rdW2bHi => Sys2Proof.Machine.execRdW2bHi s
  | .rdW2bLo => Sys2Proof.Machine.execRdW2bLo s
  | .rdCstart => Sys2Proof.Machine.execRdCstart s
  | .rdCend => Sys2Proof.Machine.execRdCend s
  | .rdCbHi => Sys2Proof.Machine.execRdCbHi s
  | .rdCbLo => Sys2Proof.Machine.execRdCbLo s
  | .rdSctrl => Sys2Proof.Machine.execRdSctrl s
  | .rdBell => Sys2Proof.Machine.execRdBell s
  | .rdUnkStatus => Sys2Proof.Machine.execRdUnkStatus s
  | .rdVector => Sys2Proof.Machine.execRdVector s
  | .rdUnmapped a => Sys2Proof.Machine.execRdUnmapped a s
  | .vramCodeWr a d => Sys2Proof.Machine.execVramCodeWr a d s
  | .vramAttrWr a d => Sys2Proof.Machine.execVramAttrWr a d s
  | .vramCodeRd a => Sys2Proof.Machine.execVramCodeRd a s
  | .vramAttrRd a => Sys2Proof.Machine.execVramAttrRd a s
  | .vblankEdge level => Sys2Proof.Machine.execVblankEdge level s
  | .kbdIrq => Sys2Proof.Machine.execKbdIrq s
  | .irqAck => Sys2Proof.Machine.execIrqAck s
  | .reset => Sys2Proof.Machine.execReset s
  | .renderFrame f => Sys2Proof.Machine.execRenderFrame f s
  | .powerOn => Sys2Proof.Machine.execPowerOn s

end Sys2Proof.Machine
end

