-- ==== Sys2Proof/Machine/Step.lean ====
section
/-! DEFINITION. One step: the next stimulus of the timeline, decoded and run (20_memory.md R62; 00_scope.md R10). -/

namespace Sys2Proof.Machine

/-- One step. With no stimulus waiting the block does nothing (log 3); a reserved word is refused by name
(30_encoding.md R85). -/
def step (s : State) : Host.Outcome State Fault Refusal :=
  match s.takeStimulus with
  | none => .next s
  | some (w, s') =>
    match decode w with
    | .ok i => exec i s'
    | .error why => .refused (.reservedStimulus why w.word)

/-- The state whose next stimulus is the word with the bits `w`, frame number 0 (log 1). -/
def State.withFetchWord (s : State) (nbits w : Nat) : State :=
  s.offerStimulus (stimulusOfBits nbits w)

end Sys2Proof.Machine
end

