-- ==== Sys2Proof/Machine/Assembler.lean ====
section
/-! DEFINITION. The notation for stimulus sequences: mnemonics, pseudo-instructions and one line's text (30_encoding.md
R87, R88; the spec's decision D27). -/

namespace Sys2Proof.Machine

/-- A line of a stimulus sequence: the mnemonics of 30_encoding.md R87, then the pseudo-instructions of R88. -/
inductive Asm where
  | wr (off : Half) (d : Byte)
  | rd (off : Half)
  | vwc (addr : Half) (d : Byte)
  | vwa (addr : Half) (d : Byte)
  | vrc (addr : Half)
  | vra (addr : Half)
  | vblank (level : Bool)
  | kbd
  | iack
  | reset
  | frame (f : Nat)
  | poweron
  /-- `wr16 OFF, V`, the register standing for its OFF. -/
  | wr16 (r : WordReg) (v : Half)
  | setw1 (v : Half)
  | setw1end (v : Half)
  | setw2 (v : Half)
  | setcur (v : Half)
  | vput (addr : Half) (c t : Byte)
  | vsync
deriving DecidableEq, Repr

/-- The offset of a two-phase register's high port, `H_OFF` (40_register_bank.md R100). -/
def WordReg.highOffset : WordReg → Half
  | .window1Base => 0x0006
  | .window1End => 0x0008
  | .window2Base => 0x000A
  | .cursorBase => 0x000F

/-- The two-phase register whose high port has the offset (30_encoding.md R88). -/
def WordReg.ofHighOffset (off : Half) : Option WordReg :=
  [WordReg.window1Base, .window1End, .window2Base, .cursorBase].find? (fun r => r.highOffset == off)

/-- One word with no frame number. -/
def plainStimulus (k : Kind) (a : Half) (d : Byte) : Stimulus :=
  { word := stimulusWord k a d, frame := 0 }

/-- `wr OFF, V >> 8` then `wr OFF+1, V & 0xFF` (30_encoding.md R88). -/
def writePair (r : WordReg) (v : Half) : List Stimulus :=
  [plainStimulus .busWr r.highOffset (v.extractLsb' 8 8), plainStimulus .busWr (r.highOffset + 1) (v.extractLsb' 0 8)]

/-- The stimuli of a line (30_encoding.md R87, R88). -/
def Asm.assemble : Asm → List Stimulus
  | .wr off d => [plainStimulus .busWr off d]
  | .rd off => [plainStimulus .busRd off 0]
  | .vwc addr d => [plainStimulus .vramCodeWr addr d]
  | .vwa addr d => [plainStimulus .vramAttrWr addr d]
  | .vrc addr => [plainStimulus .vramCodeRd addr 0]
  | .vra addr => [plainStimulus .vramAttrRd addr 0]
  | .vblank level => [plainStimulus .vblankEdge 0 (if level then 1 else 0)]
  | .kbd => [plainStimulus .kbdIrq 0 0]
  | .iack => [plainStimulus .irqAck 0 0]
  | .reset => [plainStimulus .reset 0 0]
  | .frame f => [{ word := stimulusWord .renderFrame 0 0, frame := f }]
  | .poweron => [plainStimulus .powerOn 0 0]
  | .wr16 r v => writePair r v
  | .setw1 v => writePair .window1Base v
  | .setw1end v => writePair .window1End v
  | .setw2 v => writePair .window2Base v
  | .setcur v => writePair .cursorBase v
  | .vput addr c t => [plainStimulus .vramCodeWr addr c, plainStimulus .vramAttrWr addr t]
  | .vsync => [plainStimulus .vblankEdge 0 1, plainStimulus .vblankEdge 0 0]

/-- A digit's value, for hexadecimal and decimal numbers alike. -/
def digitValue (ch : Char) : Option Nat :=
  let n := ch.toNat
  if 48 ≤ n ∧ n ≤ 57 then some (n - 48)
  else if 65 ≤ n ∧ n ≤ 70 then some (n - 55)
  else if 97 ≤ n ∧ n ≤ 102 then some (n - 87)
  else none

/-- The digits of a number in a base, after those already read. -/
def readDigits (base acc : Nat) : List Char → Option Nat
  | [] => some acc
  | ch :: rest =>
    match digitValue ch with
    | some v => if v < base then readDigits base (acc * base + v) rest else none
    | none => none

/-- A number: hexadecimal with `0x`, or decimal (30_encoding.md R87). -/
def readNumber : List Char → Option Nat
  | [] => none
  | ['0', 'x'] => none
  | '0' :: 'x' :: rest => readDigits 16 0 rest
  | digits => readDigits 10 0 digits

/-- A number that fits a byte. -/
def readByte (w : List Char) : Option Byte :=
  (readNumber w).bind (fun n => if n < 256 then some (BitVec.ofNat 8 n) else none)

/-- A number that fits 16 bits. -/
def readHalf (w : List Char) : Option Half :=
  (readNumber w).bind (fun n => if n < 65536 then some (BitVec.ofNat 16 n) else none)

/-- The new level of `vblank L`, 0 or 1 (30_encoding.md R87). -/
def readLevel (w : List Char) : Option Bool :=
  (readNumber w).bind (fun n => if n = 0 then some false else if n = 1 then some true else none)

/-- The words of a line, parted by spaces and commas; `word` holds the current word's characters in reverse. -/
def lineWords (word : List Char) : List Char → List (List Char)
  | [] => if word.isEmpty then [] else [word.reverse]
  | ch :: rest =>
    if ch = ' ' ∨ ch = ',' then
      if word.isEmpty then lineWords [] rest else word.reverse :: lineWords [] rest
    else lineWords (ch :: word) rest

/-- Two operands read together. -/
def both {α β γ : Type} (f : α → β → γ) (x : Option α) (y : Option β) : Option γ :=
  x.bind (fun a => y.map (f a))

/-- The line that words stand for, none where they are no line of 30_encoding.md R87 or R88. -/
def readWords : List (List Char) → Option Asm
  | [['w', 'r'], x, y] => both Asm.wr (readHalf x) (readByte y)
  | [['r', 'd'], x] => (readHalf x).map Asm.rd
  | [['v', 'w', 'c'], x, y] => both Asm.vwc (readHalf x) (readByte y)
  | [['v', 'w', 'a'], x, y] => both Asm.vwa (readHalf x) (readByte y)
  | [['v', 'r', 'c'], x] => (readHalf x).map Asm.vrc
  | [['v', 'r', 'a'], x] => (readHalf x).map Asm.vra
  | [['v', 'b', 'l', 'a', 'n', 'k'], x] => (readLevel x).map Asm.vblank
  | [['k', 'b', 'd']] => some .kbd
  | [['i', 'a', 'c', 'k']] => some .iack
  | [['r', 'e', 's', 'e', 't']] => some .reset
  | [['f', 'r', 'a', 'm', 'e'], x] => (readNumber x).map Asm.frame
  | [['p', 'o', 'w', 'e', 'r', 'o', 'n']] => some .poweron
  | [['w', 'r', '1', '6'], x, y] => both Asm.wr16 ((readHalf x).bind WordReg.ofHighOffset) (readHalf y)
  | [['s', 'e', 't', 'w', '1'], x] => (readHalf x).map Asm.setw1
  | [['s', 'e', 't', 'w', '1', 'e', 'n', 'd'], x] => (readHalf x).map Asm.setw1end
  | [['s', 'e', 't', 'w', '2'], x] => (readHalf x).map Asm.setw2
  | [['s', 'e', 't', 'c', 'u', 'r'], x] => (readHalf x).map Asm.setcur
  | [['v', 'p', 'u', 't'], x, y, z] => (readHalf x).bind (fun a => both (Asm.vput a) (readByte y) (readByte z))
  | [['v', 's', 'y', 'n', 'c']] => some .vsync
  | _ => none

/-- One line of text (30_encoding.md R87, R88). -/
def Asm.parse (line : List Char) : Option Asm :=
  readWords (lineWords [] line)

end Sys2Proof.Machine
end

