-- ==== Sys2Proof/Machine/Snapshot.lean ====
section
/-! DEFINITION. The saved state of a session (10_state.md R41): beside the step, since a restore is no stimulus. -/

namespace Sys2Proof.Machine

/-- What a session snapshot holds: every ControlRegisters field and the vector latch, and nothing else (10_state.md R41). -/
structure Snapshot where
  window1Base : Half
  window1End : Half
  window2Base : Half
  cursorBase : Half
  cursorStart : Byte
  cursorEnd : Byte
  screenCtrl : Byte
  unkStatus : Byte
  vectorLatch : Byte
deriving DecidableEq, Repr

/-- Saving a session, every bit of every register kept (10_state.md R41, R42). -/
def State.save (s : State) : Snapshot where
  window1Base := s.window1Base
  window1End := s.window1End
  window2Base := s.window2Base
  cursorBase := s.cursorBase
  cursorStart := s.cursorStart
  cursorEnd := s.cursorEnd
  screenCtrl := s.screenCtrl
  unkStatus := s.unkStatus
  vectorLatch := s.vectorLatch

/-- Restoring a session's saved items (10_state.md R41). DESIGN CHOICE (log 13): what the snapshot does not hold, the
beeper byte, the interrupt line and the video memory, keeps the value it has. -/
def State.restore (s : State) (p : Snapshot) : State :=
  { s with
    window1Base := p.window1Base
    window1End := p.window1End
    window2Base := p.window2Base
    cursorBase := p.cursorBase
    cursorStart := p.cursorStart
    cursorEnd := p.cursorEnd
    screenCtrl := p.screenCtrl
    unkStatus := p.unkStatus
    vectorLatch := p.vectorLatch }

end Sys2Proof.Machine
end

