-- ==== Sys2Proof/Safety.lean ====
section
/-! DEFINITION. What every state of a run satisfies, in the terms the statements use. -/

namespace Sys2Proof.Safety

open Sys2Proof.Machine

/-- The latch holds one of the three values of 10_state.md R33. -/
def latchLegal (v : Byte) : Prop :=
  v = 0x00 ∨ v = vblankCause ∨ v = keyboardCause

/-- Both video-memory arrays are in canonical form (log 8), for the parameters `c`. -/
def memoriesWf (c : Config) (s : State) : Prop :=
  s.codes.wf c.vramSize c.initCodes = true ∧ s.attrs.wf c.vramSize c.initAttrs = true

/-- The invariant: a legal latch and canonical arrays. -/
def Inv (s : State) : Prop :=
  latchLegal s.vectorLatch ∧ memoriesWf Config.machine s

end Sys2Proof.Safety
end

