-- ==== Sys2Proof/Certificates/Slice0/Obligations.lean ====
section
/-! DEFINITION. The statements about the block, from the numbered rules of spec/. `M` below is `Config.machine`, the
uninterpreted parameters: a statement about it holds for every value of them. A docstring says where a statement rests on
a decision the spec marks as its own (D<n> of 92_eei_decisions.md) or on a choice of the model (log <n>). -/

open Sys2Proof Sys2Proof.Machine Sys2Proof.Safety

/-! Vocabulary of the statements. -/

/-- A word 30_encoding.md R85 reserves: Z is not 0, or K is 0xC or more. -/
def Sys2Proof.Claims.reservedWord (w : StimWord) : Prop :=
  w.extractLsb' 24 4 ≠ 0 ∨ 0xC ≤ (w.extractLsb' 28 4).toNat

/-- The two interrupt events with the cause each leaves (60_exceptions.md R211). -/
def Sys2Proof.Claims.events : List (Instr × Byte) :=
  [(.vblankEdge true, 0x10), (.kbdIrq, 0x14)]

/-- The reads of 20_memory.md R56 that have no side effect. -/
def Sys2Proof.Claims.plainReads (a : Half) : List Instr :=
  [.rdUnkStatus, .rdW1bHi, .rdW1bLo, .rdW1eHi, .rdW1eLo, .rdW2bHi, .rdW2bLo, .rdCstart, .rdCend, .rdCbHi, .rdCbLo,
   .rdSctrl, .rdBell, .rdUnmapped a, .vramCodeRd a, .vramAttrRd a]

/-- The reads of write-only offsets and of an unlisted one (40_register_bank.md R115, R117). -/
def Sys2Proof.Claims.drawReads (a : Half) : List Instr :=
  [.rdW1bHi, .rdW1bLo, .rdW1eHi, .rdW1eLo, .rdW2bHi, .rdW2bLo, .rdCstart, .rdCend, .rdCbHi, .rdCbLo, .rdSctrl, .rdBell,
   .rdUnmapped a]

/-- The write stimuli (20_memory.md R57). -/
def Sys2Proof.Claims.writes (a : Half) (d : Byte) : List Instr :=
  [.wrW1bHi d, .wrW1bLo d, .wrW1eHi d, .wrW1eLo d, .wrW2bHi d, .wrW2bLo d, .wrCbHi d, .wrCbLo d, .wrCstart d, .wrCend d,
   .wrSctrl d, .wrUnkStatus d, .wrBell d, .wrVector d, .wrUnmapped a d, .vramCodeWr a d, .vramAttrWr a d]

/-- The low-port writes, the only ones that may emit Commit (40_register_bank.md R118). -/
def Sys2Proof.Claims.lowWrites (d : Byte) : List Instr :=
  [.wrW1bLo d, .wrW1eLo d, .wrW2bLo d, .wrCbLo d]

/-- The two writes of a two-phase register that give it a value, the high port's first (30_encoding.md R88). -/
def Sys2Proof.Claims.pairOf (r : WordReg) (v : Half) : List Instr :=
  match r with
  | .window1Base => [.wrW1bHi (v.extractLsb' 8 8), .wrW1bLo (v.extractLsb' 0 8)]
  | .window1End => [.wrW1eHi (v.extractLsb' 8 8), .wrW1eLo (v.extractLsb' 0 8)]
  | .window2Base => [.wrW2bHi (v.extractLsb' 8 8), .wrW2bLo (v.extractLsb' 0 8)]
  | .cursorBase => [.wrCbHi (v.extractLsb' 8 8), .wrCbLo (v.extractLsb' 0 8)]

/-- The operations a line of the notation stands for, in order (30_encoding.md R87, R88); a bus access is the operation
its offset selects (R84). -/
def Sys2Proof.Claims.lineOps (line : Asm) : List Instr :=
  match line with
  | .wr off d => [decodeWrite off d]
  | .rd off => [decodeRead off]
  | .vwc addr d => [.vramCodeWr addr d]
  | .vwa addr d => [.vramAttrWr addr d]
  | .vrc addr => [.vramCodeRd addr]
  | .vra addr => [.vramAttrRd addr]
  | .vblank level => [.vblankEdge level]
  | .kbd => [.kbdIrq]
  | .iack => [.irqAck]
  | .reset => [.reset]
  | .frame f => [.renderFrame f]
  | .poweron => [.powerOn]
  | .wr16 r v => Claims.pairOf r v
  | .setw1 v => Claims.pairOf .window1Base v
  | .setw1end v => Claims.pairOf .window1End v
  | .setw2 v => Claims.pairOf .window2Base v
  | .setcur v => Claims.pairOf .cursorBase v
  | .vput addr c t => [.vramCodeWr addr c, .vramAttrWr addr t]
  | .vsync => [.vblankEdge true, .vblankEdge false]

/-- The attribute of the nearest sentinel cell of row `y` in columns 0 to `x`, 0x00 if there is none: what
41_renderer.md R135 and R136 say the line attribute is at cell (y, x), with no running along the row. -/
def Sys2Proof.Claims.lineAttrAt (c : Config) (s : State) (y x : Nat) : Byte :=
  match (List.range (x + 1)).reverse.find? (fun k =>
    s.loadCode c (sourceAddress c s y k) == 0xC0 || s.loadCode c (sourceAddress c s y k) == 0xE8) with
  | some k => s.loadAttr c (sourceAddress c s y k)
  | none => 0x00

/-- The body of 41_renderer.md R148 for one scanline, its assignments to `data` in the rule's order. -/
def Sys2Proof.Claims.cellData (c : Config) (s : State) (f y x i : Nat) : Byte :=
  let addr := sourceAddress c s y x
  let code := s.loadCode c addr
  let eff := s.loadAttr c addr ||| Claims.lineAttrAt c s y x
  let blinks := (f &&& 0x20) ≠ 0
  let data := c.glyph ((match c.variant with | .rom8k => 0 | .rom16k => 0x2000) ||| ((code.toNat <<< 4) + i))
  let data := if eff.getLsbD 3 = true then 0x00 else data
  let data := if eff.getLsbD 4 = true then data ^^^ 0xFF else data
  let data := if eff.getLsbD 6 = true ∧ blinks then 0x00 else data
  let data := if code = 0xC0 ∨ code = 0xE8 then 0x00 else data
  let data :=
    if s.cursorStart.getLsbD 5 = true ∧ addr = s.cursorBase ∧ y < 24 ∧ (s.cursorStart &&& 0x0F).toNat ≤ i
      ∧ i < (s.cursorEnd &&& 0x0F).toNat ∧ ¬ (s.screenCtrl.getLsbD 4 = false ∧ blinks) then 0xFF else data
  if s.screenCtrl.getLsbD 5 = true then data ^^^ 0xFF else data

/-! Encoding and the step. -/

/-- 30_encoding.md R80 to R87 and the spec's decision D1: the word of a well-formed instruction decodes to it, every
operand at every value, the frame number too. -/
def Obligations.EncodedInstructionsDecode : Prop :=
  ∀ i : Instr, i.wf = true → decode (encode i) = .ok i

/-- 30_encoding.md R80, R84 (D1): a decoded instruction is well formed, and its own word is the word read, less the
don't-care bits of its kind; only RENDER_FRAME carries the frame number. -/
def Obligations.DecodedWordsKeepEveryUsedBit : Prop :=
  ∀ (w : Stimulus) (i : Instr), decode w = .ok i →
    i.wf = true ∧ ∃ k : Kind, Kind.ofBits (w.word.extractLsb' 28 4) = some k
      ∧ (encode i).word = w.word &&& k.usedBits
      ∧ (encode i).frame = if k = .renderFrame then w.frame else 0

/-- 30_encoding.md R84 (D1, D2): the decoder gives the row of the opcode table that matches the word with the most mask
bits set, and refuses exactly when no row matches. -/
def Obligations.DecoderPicksMostSpecificRow : Prop :=
  ∀ w : Stimulus,
    (∀ i, decode w = .ok i → ∃ r ∈ opcodeTable, r.mnemonic = i.mnemonic ∧ r.accepts w.word = true ∧
      ∀ q ∈ opcodeTable, q.accepts w.word = true → q = r ∨ q.specificity < r.specificity) ∧
    (∀ e, decode w = .error e → ∀ q ∈ opcodeTable, q.accepts w.word = false)

/-- Words of 95_test_vectors.md (V1, V12, V18, V20, V25, V28, P3 steps 1, 3, 6 and 10, P2 step 12), written out there from
the fields of 30_encoding.md R80, decode to the operations they are listed for, and the reserved words V23 and V24 are
rejected (D23). -/
def Obligations.ListedWordsDecode : Prop :=
  decode ⟨0x100006AB, 0⟩ = .ok (.wrW1bHi 0xAB) ∧ decode ⟨0x1000425A, 0⟩ = .ok (.wrUnkStatus 0x5A) ∧
  decode ⟨0x00002100, 0⟩ = .ok .rdSctrl ∧ decode ⟨0x10000CFF, 0⟩ = .ok (.wrUnmapped 0x000C 0xFF) ∧
  decode ⟨0x20600541, 0⟩ = .ok (.vramCodeWr 0x6005 0x41) ∧ decode ⟨0x505FFF00, 0⟩ = .ok (.vramAttrRd 0x5FFF) ∧
  decode ⟨0x00FFF700, 0⟩ = .ok .rdVector ∧ decode ⟨0x60000001, 0⟩ = .ok (.vblankEdge true) ∧
  decode ⟨0x90000000, 0⟩ = .ok .reset ∧ decode ⟨0xB0000000, 0⟩ = .ok .powerOn ∧
  decode ⟨0xA0000000, 32⟩ = .ok (.renderFrame 32) ∧ decode ⟨0x01000600, 0⟩ = .error .reservedZ ∧
  decode ⟨0xC0000000, 0⟩ = .error .reservedKind

/-- 00_scope.md R10 on the model's stimulus queue (log 1): a step takes the next stimulus off the queue and runs the
instruction it decodes to, on the state without it; a word that does not decode is refused with the reason (D23). -/
def Obligations.StepRunsDecodedStimulus : Prop :=
  ∀ (s : State) (w : Stimulus) (rest : List Stimulus), s.inbox = w :: rest →
    (∀ i, decode w = .ok i → step s = exec i { s with inbox := rest }) ∧
    (∀ why, decode w = .error why → step s = .refused (.reservedStimulus why w.word))

/-- 60_exceptions.md R210: no operation faults, each completes in every state; and the only word that stands for no
operation is a reserved one. -/
def Obligations.NoStimulusFaultsOnlyReservedRefused : Prop :=
  (∀ (i : Instr) (s : State), ∃ t, exec i s = .next t) ∧
  (∀ w : Stimulus, (∃ i, decode w = .ok i) ↔ ¬ Claims.reservedWord w.word)

/-- 20_memory.md R62 on the model's queue (log 1, 3, 5): whatever a stimulus does, it leaves the stimuli still to come
as they are, and draws at most one byte; with none waiting, a step changes nothing. -/
def Obligations.StimuliLeaveTheQueueAlone : Prop :=
  (∀ (i : Instr) (s t : State), exec i s = .next t → t.inbox = s.inbox ∧ (t.draws = s.draws ∨ t.draws = s.draws + 1)) ∧
  (∀ s : State, s.inbox = [] → step s = .next s)

/-! The control register bank. -/

/-- 40_register_bank.md R100: each port of each two-phase register, at its offset, replaces its own byte at once and
keeps the other, in whichever order the two writes come; only the low write may emit Commit, of the new
value. Nothing else changes. -/
def Obligations.TwoPhaseWritesReplaceOneByte : Prop :=
  ∀ (s : State) (d : Byte) (f : Nat),
    (decode ⟨stimulusWord .busWr 0x06 d, f⟩ = .ok (.wrW1bHi d) ∧ decode ⟨stimulusWord .busWr 0x07 d, f⟩ = .ok (.wrW1bLo d) ∧
     decode ⟨stimulusWord .busWr 0x08 d, f⟩ = .ok (.wrW1eHi d) ∧ decode ⟨stimulusWord .busWr 0x09 d, f⟩ = .ok (.wrW1eLo d) ∧
     decode ⟨stimulusWord .busWr 0x0A d, f⟩ = .ok (.wrW2bHi d) ∧ decode ⟨stimulusWord .busWr 0x0B d, f⟩ = .ok (.wrW2bLo d) ∧
     decode ⟨stimulusWord .busWr 0x0F d, f⟩ = .ok (.wrCbHi d) ∧ decode ⟨stimulusWord .busWr 0x10 d, f⟩ = .ok (.wrCbLo d)) ∧
    exec (.wrW1bHi d) s = .next { s with
      window1Base := (s.window1Base &&& 0x00FF) ||| (d.setWidth 16 <<< 8), outputs := [] } ∧
    exec (.wrW1eHi d) s = .next { s with
      window1End := (s.window1End &&& 0x00FF) ||| (d.setWidth 16 <<< 8), outputs := [] } ∧
    exec (.wrW2bHi d) s = .next { s with
      window2Base := (s.window2Base &&& 0x00FF) ||| (d.setWidth 16 <<< 8), outputs := [] } ∧
    exec (.wrCbHi d) s = .next { s with
      cursorBase := (s.cursorBase &&& 0x00FF) ||| (d.setWidth 16 <<< 8), outputs := [] } ∧
    (∃ os, (os = [] ∨ os = [.commit .window1Base ((s.window1Base &&& 0xFF00) ||| d.setWidth 16)]) ∧
      exec (.wrW1bLo d) s = .next { s with window1Base := (s.window1Base &&& 0xFF00) ||| d.setWidth 16, outputs := os }) ∧
    (∃ os, (os = [] ∨ os = [.commit .window1End ((s.window1End &&& 0xFF00) ||| d.setWidth 16)]) ∧
      exec (.wrW1eLo d) s = .next { s with window1End := (s.window1End &&& 0xFF00) ||| d.setWidth 16, outputs := os }) ∧
    (∃ os, (os = [] ∨ os = [.commit .window2Base ((s.window2Base &&& 0xFF00) ||| d.setWidth 16)]) ∧
      exec (.wrW2bLo d) s = .next { s with window2Base := (s.window2Base &&& 0xFF00) ||| d.setWidth 16, outputs := os }) ∧
    (∃ os, (os = [] ∨ os = [.commit .cursorBase ((s.cursorBase &&& 0xFF00) ||| d.setWidth 16)]) ∧
      exec (.wrCbLo d) s = .next { s with cursorBase := (s.cursorBase &&& 0xFF00) ||| d.setWidth 16, outputs := os })

/-- 30_encoding.md R83 and R88 (D27): the two stimuli `wr16` stands for, run one after the other, leave the register
holding the whole 16-bit value and change no other register; a low write alone gives the previous high byte with the new
low byte. -/
def Obligations.TwoPhaseRoundTrip : Prop :=
  (∀ (s : State) (r : WordReg) (v : Half) (rest : List Stimulus), s.inbox = writePair r v ++ rest →
    core.run 2 s = .next ((State.setWord { s with inbox := rest } r v).drive (commitOutputs Config.machine r v))) ∧
  (∀ (v : Half) (h l : Byte), setLowByte (setHighByte v h) l = h ++ l ∧ setLowByte v l = v.extractLsb' 8 8 ++ l)

/-- 40_register_bank.md R119: no write is validated, clamped or masked. The single-byte registers hold the byte written,
each two-phase half takes any byte, and whatever the registers hold a render goes on. -/
def Obligations.RegisterWritesStoreEveryByte : Prop :=
  ∀ (s : State) (d : Byte) (f : Nat),
    exec (.wrCstart d) s = .next { s with cursorStart := d, outputs := [] } ∧
    exec (.wrCend d) s = .next { s with cursorEnd := d, outputs := [] } ∧
    exec (.wrSctrl d) s = .next { s with screenCtrl := d, outputs := [] } ∧
    exec (.wrUnkStatus d) s = .next { s with unkStatus := d, outputs := [] } ∧
    (∃ t, exec (.wrBell d) s = .next t ∧ t.bellCtrl = d) ∧
    (∃ t, exec (.wrW1bHi d) s = .next t ∧ t.window1Base = d ++ s.window1Base.extractLsb' 0 8) ∧
    (∃ t, exec (.wrW1bLo d) s = .next t ∧ t.window1Base = s.window1Base.extractLsb' 8 8 ++ d) ∧
    (∃ t, exec (.wrW1eHi d) s = .next t ∧ t.window1End = d ++ s.window1End.extractLsb' 0 8) ∧
    (∃ t, exec (.wrW1eLo d) s = .next t ∧ t.window1End = s.window1End.extractLsb' 8 8 ++ d) ∧
    (∃ t, exec (.wrW2bHi d) s = .next t ∧ t.window2Base = d ++ s.window2Base.extractLsb' 0 8) ∧
    (∃ t, exec (.wrW2bLo d) s = .next t ∧ t.window2Base = s.window2Base.extractLsb' 8 8 ++ d) ∧
    (∃ t, exec (.wrCbHi d) s = .next t ∧ t.cursorBase = d ++ s.cursorBase.extractLsb' 0 8) ∧
    (∃ t, exec (.wrCbLo d) s = .next t ∧ t.cursorBase = s.cursorBase.extractLsb' 8 8 ++ d) ∧
    (∃ g, exec (.renderFrame f) s = .next { s with outputs := [.frame g] })

/-- 40_register_bank.md R112, R113: a write at 0x42 stores the byte verbatim, bit 2 too; a read at 0x42 returns it with
bit 2 set, changes nothing, and returns the same again. -/
def Obligations.UnkStatusReadsBackWithBitTwoSet : Prop :=
  ∀ (s : State) (d : Byte) (f : Nat),
    decode ⟨stimulusWord .busWr 0x42 d, f⟩ = .ok (.wrUnkStatus d) ∧
    decode ⟨stimulusWord .busRd 0x42 d, f⟩ = .ok .rdUnkStatus ∧
    exec (.wrUnkStatus d) s = .next { s with unkStatus := d, outputs := [] } ∧
    exec .rdUnkStatus s = .next { s with outputs := [.data (s.unkStatus ||| 0x04)] } ∧
    (∀ t, exec .rdUnkStatus s = .next t → exec .rdUnkStatus t = .next t) ∧
    (s.unkStatus ||| 0x04).getLsbD 2 = true ∧
    (∀ n, n ≠ 2 → (s.unkStatus ||| 0x04).getLsbD n = s.unkStatus.getLsbD n)

/-- 40_register_bank.md R114 and 10_state.md R32 under the spec's decision D15: a write at 0x60 stores the whole byte and
emits the beeper enable D[2], which stays the beeper output until the next such write or POWER_ON. -/
def Obligations.BeeperFollowsLastBellWrite : Prop :=
  (∀ (s : State) (d : Byte), exec (.wrBell d) s = .next { s with bellCtrl := d, outputs := [.beep (d.getLsbD 2)] }) ∧
  (∀ (i : Instr) (s t : State), exec i s = .next t →
    (t.bellCtrl = s.bellCtrl ∨ (∃ d, i = .wrBell d) ∨ i = .powerOn) ∧
    (∀ b, .beep b ∈ t.outputs → t.bellCtrl.getLsbD 2 = b))

/-- 40_register_bank.md R115, R117 under the spec's decision D4, as the model's free value (log 5): a read of a write-only
or unlisted offset completes, returns the next drawn byte, whatever it is, and changes nothing of the block. -/
def Obligations.WriteOnlyAndUnmappedReadsReturnADraw : Prop :=
  ∀ (s : State) (a : Half), ∀ i ∈ Claims.drawReads a,
    exec i s = .next { s with draws := s.draws + 1, outputs := [.data (Config.draw s.draws)] }

/-- 40_register_bank.md R116 and 42_vector_latch.md R184 under the spec's decisions D3 and D5 (log 10): a write to an
unlisted offset or to 0xFFF7 completes with no change and no output. -/
def Obligations.UnmappedAndVectorWritesChangeNothing : Prop :=
  ∀ (s : State) (a : Half) (d : Byte),
    exec (.wrUnmapped a d) s = .next { s with outputs := [] } ∧ exec (.wrVector d) s = .next { s with outputs := [] }

/-- 20_memory.md R57: a write repeated at once leaves the state of one write, and emits what the one emitted, but for the
Commit of a low-port write, on which nothing here depends (40_register_bank.md R118). -/
def Obligations.RepeatedWriteIsOneWrite : Prop :=
  ∀ (s : State) (a : Half) (d : Byte), ∀ i ∈ Claims.writes a d, ∃ t os, exec i s = .next t ∧
    exec i t = .next { t with outputs := os } ∧ (i ∉ Claims.lowWrites d → os = t.outputs)

/-- 10_state.md R20, R24 to R35 and 20_memory.md R69: each component of the block is changed by its own stimuli only. Its
clauses rest on the spec's decisions D3 and D5 (unlisted writes and writes to 0xFFF7 change nothing; log 10), D13 (the
latch read keeps the line, IRQ_ACK the latch), D14 and D15 (RESET clears the line and keeps bell_ctrl; log 12). -/
def Obligations.EachComponentHasItsOwnWriters : Prop :=
  ∀ (i : Instr) (s t : State), exec i s = .next t → i = .powerOn ∨
    ((t.window1Base = s.window1Base ∨ ∃ d, i = .wrW1bHi d ∨ i = .wrW1bLo d) ∧
     (t.window1End = s.window1End ∨ ∃ d, i = .wrW1eHi d ∨ i = .wrW1eLo d) ∧
     (t.window2Base = s.window2Base ∨ ∃ d, i = .wrW2bHi d ∨ i = .wrW2bLo d) ∧
     (t.cursorBase = s.cursorBase ∨ ∃ d, i = .wrCbHi d ∨ i = .wrCbLo d) ∧
     (t.cursorStart = s.cursorStart ∨ ∃ d, i = .wrCstart d) ∧
     (t.cursorEnd = s.cursorEnd ∨ ∃ d, i = .wrCend d) ∧
     (t.screenCtrl = s.screenCtrl ∨ ∃ d, i = .wrSctrl d) ∧
     (t.unkStatus = s.unkStatus ∨ ∃ d, i = .wrUnkStatus d) ∧
     (t.bellCtrl = s.bellCtrl ∨ ∃ d, i = .wrBell d) ∧
     (t.vectorLatch = s.vectorLatch ∨ i = .vblankEdge true ∨ i = .kbdIrq ∨ i = .rdVector ∨ i = .reset) ∧
     (t.irqOut = s.irqOut ∨ i = .vblankEdge true ∨ i = .kbdIrq ∨ i = .irqAck ∨ i = .reset) ∧
     (t.codes = s.codes ∨ ∃ a d, i = .vramCodeWr a d) ∧
     (t.attrs = s.attrs ∨ ∃ a d, i = .vramAttrWr a d))

/-! The interrupt vector latch. -/

/-- 60_exceptions.md R211, R215: a rising vertical-blank edge and a keyboard event each leave their cause in the latch and
assert the one line, and that is the whole of what they do; no other stimulus asserts the line. -/
def Obligations.TwoEventsAssertTheLine : Prop :=
  (∀ s : State, ∀ e ∈ Claims.events,
    exec e.1 s = .next { s with vectorLatch := e.2, irqOut := true, outputs := [.irq true] }) ∧
  (∀ (i : Instr) (s t : State), exec i s = .next t → s.irqOut = false → t.irqOut = true → i = .vblankEdge true ∨ i = .kbdIrq)

/-- 42_vector_latch.md R180 under the spec's decision D17 (log 12): a falling edge changes nothing, and the block keeps no
level: a second `vblank 1` in a row acts as the first did, on the state the CPU left. -/
def Obligations.FallingEdgeDoesNothing : Prop :=
  ∀ s : State, exec (.vblankEdge false) s = .next { s with outputs := [] } ∧
    ∃ t u, exec (.vblankEdge true) s = .next t ∧ exec .irqAck t = .next u ∧ u.irqOut = false ∧
      ∃ v, exec (.vblankEdge true) u = .next v ∧ v.irqOut = true

/-- 42_vector_latch.md R182: of two events the later is all that is left, with no trace of the earlier, and the read
reports it. -/
def Obligations.LaterEventReplacesEarlier : Prop :=
  ∀ s : State, ∀ e ∈ Claims.events, ∀ e' ∈ Claims.events, ∃ t u,
    exec e.1 s = .next t ∧ exec e'.1 t = .next u ∧ exec e'.1 s = .next u ∧
    ∃ v, exec .rdVector u = .next v ∧ v.outputs = [.data e'.2]

/-- 20_memory.md R56, R66: the read at 0xFFF7 returns the latch and sets it to 0x00 in its one step, so a second read
returns 0x00; every other read returns a byte and leaves every component of the block as it was. That the read at 0xFFF7
keeps the line is the spec's decision D13 (log 12), and the count of drawn bytes is the model's (D4, log 5). -/
def Obligations.OnlyTheVectorReadHasASideEffect : Prop :=
  (∀ (d : Byte) (f : Nat), decode ⟨stimulusWord .busRd 0xFFF7 d, f⟩ = .ok .rdVector) ∧
  (∀ s : State, exec .rdVector s = .next { s with vectorLatch := 0x00, outputs := [.data s.vectorLatch] } ∧
    ∀ t, exec .rdVector s = .next t → exec .rdVector t = .next { t with outputs := [.data 0x00] }) ∧
  (∀ (s : State) (a : Half), ∀ i ∈ Claims.plainReads a, ∃ v n,
    exec i s = .next { s with draws := n, outputs := [.data v] })

/-- 42_vector_latch.md R185 and 60_exceptions.md R217 under the spec's decision D13 (log 12): IRQ_ACK clears the line and
keeps the latch; an event between the CPU's latch read and its acknowledge leaves its cause waiting with the line clear. -/
def Obligations.ServiceClearsLineAndKeepsCause : Prop :=
  (∀ s : State, exec .irqAck s = .next { s with irqOut := false, outputs := [.irq false] }) ∧
  (∀ s : State, ∀ e ∈ Claims.events, ∃ t u v, exec .rdVector s = .next t ∧ exec e.1 t = .next u ∧ exec .irqAck u = .next v ∧
    v.vectorLatch = e.2 ∧ v.irqOut = false)

/-- 42_vector_latch.md R186 under the spec's decisions D13 and D14: the line, once up, comes down only by IRQ_ACK, RESET
or POWER_ON. -/
def Obligations.OnlyServiceOrResetClearsTheLine : Prop :=
  ∀ (i : Instr) (s t : State), exec i s = .next t → s.irqOut = true → t.irqOut = false →
    i = .irqAck ∨ i = .reset ∨ i = .powerOn

/-- 42_vector_latch.md R186 on the model's outputs (log 4): what a stimulus emits for the line is the line's level after
it, and no stimulus changes the line without emitting it. -/
def Obligations.LineOutputIsTheLine : Prop :=
  ∀ (i : Instr) (s t : State), exec i s = .next t →
    (∀ b, .irq b ∈ t.outputs → t.irqOut = b) ∧ (t.irqOut ≠ s.irqOut → .irq t.irqOut ∈ t.outputs)

/-! Reset and power-on. -/

/-- 10_state.md R40, the power-on column (bell_ctrl by D15, irq_out by D13, the arrays by D16), and the model's own fields
(log 1, 4, 5). -/
def Obligations.ResetStateIsPowerOnState : Prop :=
  State.reset.window1Base = 0x0000 ∧ State.reset.window1End = 0x0000 ∧ State.reset.window2Base = 0x0000 ∧
  State.reset.cursorBase = 0x0000 ∧ State.reset.cursorStart = 0x00 ∧ State.reset.cursorEnd = 0x00 ∧
  State.reset.screenCtrl = 0x00 ∧ State.reset.unkStatus = 0x00 ∧ State.reset.bellCtrl = 0x00 ∧
  State.reset.vectorLatch = 0x00 ∧ State.reset.irqOut = false ∧
  (∀ a : Half, State.reset.loadCode Config.machine a = Config.machine.initCodes (Config.machine.idx a) ∧
    State.reset.loadAttr Config.machine a = Config.machine.initAttrs (Config.machine.idx a)) ∧
  State.reset.inbox = [] ∧ State.reset.outputs = [] ∧ State.reset.draws = 0

/-- 70_reset_and_hazards.md R240 (D13, D15, D16): from any state POWER_ON gives the power-on state; the stimuli still to
come and the count of drawn bytes are the model's own and stay (log 1, 5). -/
def Obligations.PowerOnForgetsEverything : Prop :=
  ∀ s : State, exec .powerOn s = .next { s with
    window1Base := 0x0000, window1End := 0x0000, window2Base := 0x0000, cursorBase := 0x0000
    cursorStart := 0x00, cursorEnd := 0x00, screenCtrl := 0x00, unkStatus := 0x00, bellCtrl := 0x00
    vectorLatch := 0x00, irqOut := false, codes := [], attrs := [], outputs := [.irq false, .beep false] }

/-- 70_reset_and_hazards.md R241, R242 (the line by D14, bell_ctrl by D15): RESET clears the latch and the line, keeps
everything else, and a frame after it is the frame before it. -/
def Obligations.ResetKeepsRegistersAndDisplay : Prop :=
  ∀ (s : State) (f : Nat),
    exec .reset s = .next { s with vectorLatch := 0x00, irqOut := false, outputs := [.irq false] } ∧
    ∀ t, exec .reset s = .next t → ∃ u v, exec (.renderFrame f) s = .next u ∧ exec (.renderFrame f) t = .next v ∧
      u.outputs = v.outputs

/-- The invariant holds at reset: the latch holds a legal value (10_state.md R33), both arrays are canonical (log 8). -/
def Obligations.ResetStateHasLegalLatchAndMemory : Prop :=
  Inv State.reset

/-- 10_state.md R33 (derived there) and the model's canonical form of the arrays (log 8): every step keeps the latch one
of 0x00, 0x10, 0x14 and both arrays canonical. -/
def Obligations.StepKeepsLegalLatchAndMemory : Prop :=
  ∀ s t : State, Inv s → step s = .next t → Inv t

/-! Video memory. -/

/-- 20_memory.md R51 (D6): every address has an index within the array; with a power-of-two size and an aligned base the
index is a mask of the address. -/
def Obligations.EveryAddressHasAnIndex : Prop :=
  (∀ (c : Config) (a : Half), c.idx a < c.vramSize) ∧
  (∀ (c : Config) (a : Half) (n : Nat), c.vramSize = 2 ^ n → c.vramSize ∣ c.vramBase.toNat →
    c.idx a = a.toNat &&& (c.vramSize - 1))

/-- 43_video_memory.md R200, R201 (D6): a write stores its byte at the index of its address, where every address with
that index reads it back; every other entry, the other array and every register stay. -/
def Obligations.VideoWritesStoreOneEntry : Prop :=
  ∀ (s : State) (a : Half) (d : Byte),
    (∃ m, exec (.vramCodeWr a d) s = .next { s with codes := m, outputs := [] } ∧
      ∀ b : Half, State.loadCode Config.machine { s with codes := m, outputs := [] } b =
        if Config.machine.idx b = Config.machine.idx a then d else s.loadCode Config.machine b) ∧
    (∃ m, exec (.vramAttrWr a d) s = .next { s with attrs := m, outputs := [] } ∧
      ∀ b : Half, State.loadAttr Config.machine { s with attrs := m, outputs := [] } b =
        if Config.machine.idx b = Config.machine.idx a then d else s.loadAttr Config.machine b)

/-- 43_video_memory.md R202, R203 (D6, D16): a read returns the last byte written at the index of its address, whatever
the address it was written by, and changes nothing. -/
def Obligations.VideoReadsReturnLastWrite : Prop :=
  (∀ (s : State) (a : Half),
    exec (.vramCodeRd a) s = .next { s with outputs := [.data (s.loadCode Config.machine a)] } ∧
    exec (.vramAttrRd a) s = .next { s with outputs := [.data (s.loadAttr Config.machine a)] }) ∧
  (∀ (s : State) (a b : Half) (d : Byte), Config.machine.idx b = Config.machine.idx a → ∃ t u v w,
    exec (.vramCodeWr a d) s = .next t ∧ exec (.vramCodeRd b) t = .next u ∧ u.outputs = [.data d] ∧
    exec (.vramAttrWr a d) s = .next v ∧ exec (.vramAttrRd b) v = .next w ∧ w.outputs = [.data d])

/-! The renderer. -/

/-- 41_renderer.md R150, R151: RENDER_FRAME completes whatever the state holds, writes no state of the block, and its
only output is the grid, which is always full: 234 rows of 480 pixels (R131). -/
def Obligations.RenderWritesNoStateAndReturnsAFullGrid : Prop :=
  ∀ (s : State) (f : Nat), ∃ g : Grid, exec (.renderFrame f) s = .next { s with outputs := [.frame g] } ∧
    g = renderFrame Config.machine s f ∧ g.length = 234 ∧ ∀ row ∈ g, row.length = 480

/-- 41_renderer.md R148 (with the spec's decisions D7, D8, D9, D10, D12; log 11): for all parameters, pixel
(9*y + i, 6*x + b) of the frame is bit 7 - b of the scanline byte that R148's body gives for cell (y, x). -/
def Obligations.FramePixelsAreTheRuleBody : Prop :=
  ∀ (c : Config) (s : State) (f y x i b : Nat), y < 26 → x < 80 → i < 9 → b < 6 →
    ((renderFrame c s f)[9 * y + i]?).bind (fun row => row[6 * x + b]?) =
      some ((Claims.cellData c s f y x i).getLsbD (7 - b))

/-- 41_renderer.md R135, R136: the line attribute is 0x00 at the start of every row, a sentinel's attribute from the
sentinel on, and nothing else changes it; each cell carries its own attribute ORed with it (R137). -/
def Obligations.LineAttributeIsTheNearestSentinels : Prop :=
  ∀ (c : Config) (s : State) (y x : Nat), x < 80 →
    ((shadedRow c s y)[x]?).map Prod.snd =
      some (s.loadAttr c (sourceAddress c s y x) ||| Claims.lineAttrAt c s y x)

/-- 41_renderer.md R140, R141, R142: with no blink, sentinel, cursor or invert in play, conceal and then reverse are all
that changes a glyph byte, so both together give 0xFF, and the underline bit changes nothing. -/
def Obligations.ConcealThenReverse : Prop :=
  ∀ (c : Config) (s : State) (f y : Nat) (cell : Cell) (eff : Byte) (i : Nat),
    eff.getLsbD 6 = false → cell.code ≠ 0xC0 → cell.code ≠ 0xE8 → s.cursorStart.getLsbD 5 = false →
    s.screenCtrl.getLsbD 5 = false →
    scanlineByte c s f y cell eff i =
      match eff.getLsbD 3, eff.getLsbD 4 with
      | false, false => glyphByte c cell.code i
      | true, false => 0x00
      | false, true => glyphByte c cell.code i ^^^ 0xFF
      | true, true => 0xFF

/-- 41_renderer.md R143 under the spec's decision D10: with eff[6] set, a cell is blank before the overlays in the frames
with F & 0x20 set, and in the others is what it is with the bit clear; screen_ctrl's cursor bit plays no part. -/
def Obligations.BlinkBlanksEveryOtherPhase : Prop :=
  ∀ (c : Config) (s : State) (f y : Nat) (cell : Cell) (eff : Byte) (i : Nat), eff.getLsbD 6 = true →
    s.cursorStart.getLsbD 5 = false → s.screenCtrl.getLsbD 5 = false →
    ((f &&& 0x20) ≠ 0 → scanlineByte c s f y cell eff i = 0x00) ∧
    ((f &&& 0x20) = 0 → scanlineByte c s f y cell eff i = scanlineByte c s f y cell (eff &&& 0xBF) i)

/-- 41_renderer.md R144: a sentinel cell's scanlines are blank but for the cursor overlay and the global invert, whatever
its glyph, its attributes, the line attribute and the glyph store. -/
def Obligations.SentinelCellsRenderBlank : Prop :=
  ∀ (c : Config) (s : State) (f y : Nat) (cell : Cell) (eff : Byte) (i : Nat), cell.code = 0xC0 ∨ cell.code = 0xE8 →
    scanlineByte c s f y cell eff i = globalInvert s (cursorOverlay s f y cell.addr i 0x00)

/-- 41_renderer.md R147: toggling screen_ctrl bit 5 inverts every pixel of the frame, cursor scanlines, sentinel cells and
status rows with the rest, and it is the set bit that inverts: a blank sentinel cell is 0xFF with it set, 0x00 with it
clear. -/
def Obligations.GlobalInvertInvertsEveryPixel : Prop :=
  (∀ (c : Config) (s : State) (f : Nat),
    renderFrame c { s with screenCtrl := s.screenCtrl ^^^ 0x20 } f =
      (renderFrame c s f).map (fun row => row.map (fun p => !p))) ∧
  (∀ (c : Config) (s : State) (f y : Nat) (cell : Cell) (eff : Byte) (i : Nat), cell.code = 0xC0 ∨ cell.code = 0xE8 →
    s.cursorStart.getLsbD 5 = false →
    scanlineByte c s f y cell eff i = if s.screenCtrl.getLsbD 5 = true then 0xFF else 0x00)

/-- 41_renderer.md R142, R152: attribute bits 7, 5 and 2:0 have no effect on any pixel (two states whose attributes agree
in bits 3, 4 and 6 give the same frame), and a code that is no sentinel matters only through its glyph bytes. -/
def Obligations.OnlyFourEffectBitsAndTwoCodesMatter : Prop :=
  (∀ (c : Config) (s : State) (f : Nat) (m : Memory),
    (∀ a : Half, State.loadAttr c { s with attrs := m } a &&& 0x58 = s.loadAttr c a &&& 0x58) →
    renderFrame c { s with attrs := m } f = renderFrame c s f) ∧
  (∀ (c : Config) (s : State) (f y : Nat) (p q : Cell) (eff : Byte) (i : Nat), p.addr = q.addr →
    p.code ≠ 0xC0 → p.code ≠ 0xE8 → q.code ≠ 0xC0 → q.code ≠ 0xE8 → glyphByte c p.code i = glyphByte c q.code i →
    scanlineByte c s f y p eff i = scanlineByte c s f y q eff i)

/-- 41_renderer.md R145, R146 under the spec's decisions D8, D10, D12 (log 11): on a cursor scanline the byte is 0xFF, or
0x00 under the invert, over any cell; on every other scanline it is what it would be with no cursor. -/
def Obligations.CursorScanlinesAreLit : Prop :=
  ∀ (c : Config) (s : State) (f y : Nat) (cell : Cell) (eff : Byte) (i : Nat),
    scanlineByte c s f y cell eff i =
      if s.cursorStart.getLsbD 5 = true ∧ cell.addr = s.cursorBase ∧ y < 24 ∧ (s.cursorStart &&& 0x0F).toNat ≤ i
        ∧ i < (s.cursorEnd &&& 0x0F).toNat ∧ ¬ (s.screenCtrl.getLsbD 4 = false ∧ (f &&& 0x20) ≠ 0)
      then (if s.screenCtrl.getLsbD 5 = true then 0x00 else 0xFF)
      else scanlineByte c { s with cursorStart := s.cursorStart &&& 0xDF } f y cell eff i

/-- 70_reset_and_hazards.md R248: an end at or below the start, a start of 9 or more, or a cursor_base that is no text
cell's 16-bit address hides the cursor: the render completes and its frame is that of the same state with CV clear. -/
def Obligations.DegenerateCursorIsHidden : Prop :=
  ∀ (s : State) (f : Nat),
    (s.cursorEnd &&& 0x0F).toNat ≤ (s.cursorStart &&& 0x0F).toNat ∨ 9 ≤ (s.cursorStart &&& 0x0F).toNat ∨
      (∀ y x, y < 24 → x < 80 → sourceAddress Config.machine s y x ≠ s.cursorBase) →
    exec (.renderFrame f) s = .next { s with
      outputs := [.frame (renderFrame Config.machine { s with cursorStart := s.cursorStart &&& 0xDF } f)] }

/-- 41_renderer.md R138 and 30_encoding.md R82 (D10, D11): a frame depends on F only through F & 0x20, so 32 frames of one
phase are followed by 32 of the other, a period of 64. -/
def Obligations.FrameNumberMattersByOneBit : Prop :=
  (∀ (c : Config) (s : State) (f g : Nat), f &&& 0x20 = g &&& 0x20 → renderFrame c s f = renderFrame c s g) ∧
  (∀ f : Nat, (f &&& 0x20 ≠ 0 ↔ 32 ≤ f % 64) ∧ (f + 64) &&& 0x20 = f &&& 0x20 ∧
    ((f + 32) &&& 0x20 = 0 ↔ f &&& 0x20 ≠ 0))

/-- 95_test_vectors.md S8, 41_renderer.md R146: with screen_ctrl bit 4 set (steady) and no attribute that blinks, every
frame number gives the same frame. -/
def Obligations.SteadyCursorIgnoresFrameNumber : Prop :=
  ∀ (c : Config) (s : State) (f g : Nat), s.screenCtrl.getLsbD 4 = true → (∀ a : Half, (s.loadAttr c a).getLsbD 6 = false) →
    renderFrame c s f = renderFrame c s g

/-- 41_renderer.md R132 under the spec's decision D9 (log 11): the split is 24 less the whole rows, rounded toward zero,
from window 1's base up to window 2's, or 24 more when window 2's is the lower. -/
def Obligations.SplitCountsWholeRows : Prop :=
  ∀ (s : State) (k r : Nat), r < 80 →
    (s.window2Base.toNat = s.window1Base.toNat + 80 * k + r → s.split = 24 - (k : Int)) ∧
    (s.window1Base.toNat = s.window2Base.toNat + 80 * k + r → s.split = 24 + (k : Int))

/-- 41_renderer.md R133 (D7, D8): the text rows above the split come from window 2 and the rest from window 1, rows
counted from the split; a split of 24 or more, or of 0 or less, gives one window all 24; the status rows come from
STATUS_BASE whatever the registers hold. -/
def Obligations.RowsComeFromTheirWindows : Prop :=
  ∀ (c : Config) (s : State) (y x : Nat), x < 80 →
    (y < 24 → (y : Int) < s.split → sourceAddress c s y x = s.window2Base + BitVec.ofNat 16 (80 * y + x)) ∧
    (∀ k : Nat, y < 24 → (y : Int) = s.split + k → sourceAddress c s y x = s.window1Base + BitVec.ofNat 16 (80 * k + x)) ∧
    (24 ≤ s.split → y < 24 → sourceAddress c s y x = s.window2Base + BitVec.ofNat 16 (80 * y + x)) ∧
    (∀ k : Nat, s.split = -(k : Int) → y < 24 →
      sourceAddress c s y x = s.window1Base + BitVec.ofNat 16 (80 * (y + k) + x)) ∧
    (y = 24 → sourceAddress c s y x = c.statusBase + BitVec.ofNat 16 x) ∧
    (y = 25 → sourceAddress c s y x = c.statusBase + BitVec.ofNat 16 (80 + x))

/-- 41_renderer.md R139 (derived there; 90_conflicts.md C9): the source's two index forms agree and lie in the variant's
bank, and glyph bytes that are no scanline 0 to 8 of a code there have no effect on any frame. -/
def Obligations.GlyphFetchesStayInTheBank : Prop :=
  (∀ (v : Variant) (code : Byte) (i : Nat), i < 9 →
    glyphIndex v code i = (v.bankOffset ||| (code.toNat <<< 4)) + i ∧ glyphIndex v code i < v.storeSize ∧
    v.bankOffset ≤ glyphIndex v code i ∧ glyphIndex v code i ≤ v.bankOffset + 0x0FF8) ∧
  (∀ (c : Config) (g : Nat → Byte) (s : State) (f : Nat),
    (∀ (code : Byte) (i : Nat), i < 9 → g (c.variant.bankOffset + 16 * code.toNat + i) =
      c.glyph (c.variant.bankOffset + 16 * code.toNat + i)) →
    renderFrame { c with glyph := g } s f = renderFrame c s f)

/-- 10_state.md R25, R28 to R34: a frame depends on nothing but the two window bases, cursor_base, the defined bits of
cursor_start, cursor_end and screen_ctrl, and the video memory: window1_end, unk_status, bell_ctrl, the latch, the line
and every unknown bit have no effect on it. -/
def Obligations.FrameReadsOnlyTheDefinedBits : Prop :=
  ∀ (c : Config) (s t : State) (f : Nat), s.window1Base = t.window1Base → s.window2Base = t.window2Base →
    s.cursorBase = t.cursorBase → s.cursorStart &&& 0x2F = t.cursorStart &&& 0x2F →
    s.cursorEnd &&& 0x0F = t.cursorEnd &&& 0x0F → s.screenCtrl &&& 0x30 = t.screenCtrl &&& 0x30 →
    (∀ a : Half, s.loadCode c a = t.loadCode c a ∧ s.loadAttr c a = t.loadAttr c a) →
    renderFrame c s f = renderFrame c t f

/-- 70_reset_and_hazards.md R245: a frame between the high and the low write of a window base or of cursor_base is the
frame of the mixed value, the new high byte with the old low byte. -/
def Obligations.FrameBetweenTwoWritesIsTorn : Prop :=
  ∀ (s : State) (d : Byte) (f : Nat),
    (∃ t, exec (.wrW1bHi d) s = .next t ∧ exec (.renderFrame f) t = .next { s with
      window1Base := d ++ s.window1Base.extractLsb' 0 8
      outputs := [.frame (renderFrame Config.machine { s with window1Base := d ++ s.window1Base.extractLsb' 0 8 } f)] }) ∧
    (∃ t, exec (.wrW2bHi d) s = .next t ∧ exec (.renderFrame f) t = .next { s with
      window2Base := d ++ s.window2Base.extractLsb' 0 8
      outputs := [.frame (renderFrame Config.machine { s with window2Base := d ++ s.window2Base.extractLsb' 0 8 } f)] }) ∧
    (∃ t, exec (.wrCbHi d) s = .next t ∧ exec (.renderFrame f) t = .next { s with
      cursorBase := d ++ s.cursorBase.extractLsb' 0 8
      outputs := [.frame (renderFrame Config.machine { s with cursorBase := d ++ s.cursorBase.extractLsb' 0 8 } f)] })

/-! Saved state and notation. -/

/-- 10_state.md R41, R42: a snapshot holds every bit of the eight control registers and the latch; restoring it gives them
back into any state, and a state restored from its own snapshot is itself. What the snapshot does not hold stays (log 13). -/
def Obligations.SavedRegistersSurviveRestore : Prop :=
  (∀ s : State, s.restore s.save = s) ∧
  (∀ (s t : State), t.restore s.save = { s with
    bellCtrl := t.bellCtrl, irqOut := t.irqOut, codes := t.codes, attrs := t.attrs
    inbox := t.inbox, outputs := t.outputs, draws := t.draws })

/-- 30_encoding.md R87, R88 (the spec's decision D27): each line of the notation assembles to the words of its operations,
with its operands, in the order given there; and `wr 0x06, 0x60` is the word 0x10000660. -/
def Obligations.AssembledLinesDecode : Prop :=
  (∀ line : Asm, line.assemble.map decode = (Claims.lineOps line).map Except.ok) ∧
  (Asm.wr 0x06 0x60).assemble = [⟨0x10000660, 0⟩]
end

