-- ==== Sys2Proof/Laws/AddressMap.lean ====
section
/-! SUPPORT. The laws of the address map. -/

namespace Sys2Proof

/-- Each port is the one its own offset selects. -/
@[simp] theorem BusPort.ofOffset_offset (p : BusPort) : BusPort.ofOffset p.offset = some p := by
  cases p <;> decide

/-- An offset selects a port only when it is that port's offset, all 16 bits of it. -/
theorem BusPort.offset_of_ofOffset {a : Half} {p : BusPort} (h : BusPort.ofOffset a = some p) : p.offset = a := by
  have := List.find?_some h
  simpa using this

/-- An offset selects no port exactly when it is no port's offset. -/
theorem BusPort.ofOffset_eq_none {a : Half} : BusPort.ofOffset a = none ↔ ∀ p : BusPort, p.offset ≠ a := by
  constructor
  · intro h p hp
    rw [← hp, BusPort.ofOffset_offset] at h
    cases h
  · intro h
    cases hp : BusPort.ofOffset a with
    | none => rfl
    | some p => exact absurd (BusPort.offset_of_ofOffset hp) (h p)

theorem Config.vramSize_pos (c : Config) : 0 < c.vramSize := Nat.succ_pos _

/-- Every 16-bit address has a valid index (20_memory.md R51). -/
theorem Config.idx_lt (c : Config) (a : Half) : c.idx a < c.vramSize := by
  have h := c.vramSize_pos
  have h1 := Int.emod_lt_of_pos ((a.toNat : Int) - (c.vramBase.toNat : Int)) (by omega : (0 : Int) < (c.vramSize : Int))
  have h2 := Int.emod_nonneg ((a.toNat : Int) - (c.vramBase.toNat : Int)) (by omega : (c.vramSize : Int) ≠ 0)
  unfold Config.idx
  omega

end Sys2Proof
end

