-- ==== Sys2Proof/Laws/Decode.lean ====
section
/-! SUPPORT. The fields of an assembled word, and what decoding it gives. -/

namespace Sys2Proof

/-- Each bit of an assembled word is a bit of one of its fields. -/
theorem getLsbD_stimulusWord (k : Kind) (a : Half) (d : Byte) (i : Nat) :
    (stimulusWord k a d).getLsbD i =
      if i < 8 then d.getLsbD i else if i < 24 then a.getLsbD (i - 8) else if i < 28 then false else k.bits.getLsbD (i - 28) := by
  have h : (stimulusWord k a d).getLsbD i = (((k.bits ++ 0#4) ++ a) ++ d).getLsbD i := rfl
  rw [h, BitVec.getLsbD_append, BitVec.getLsbD_append, BitVec.getLsbD_append]
  by_cases h1 : i < 8
  · simp [h1]
  · by_cases h2 : i < 24
    · have h3 : i - 8 < 16 := by omega
      simp [h1, h2, h3]
    · have h3 : ¬ i - 8 < 16 := by omega
      by_cases h4 : i < 28
      · have h5 : i - 8 - 16 < 4 := by omega
        simp [h1, h2, h3, h4, h5]
      · have h5 : ¬ i - 8 - 16 < 4 := by omega
        have h6 : i - 8 - 16 - 4 = i - 28 := by omega
        simp [h1, h2, h3, h4, h5, h6]

theorem stimulusWord_kind (k : Kind) (a : Half) (d : Byte) : (stimulusWord k a d).extractLsb' 28 4 = k.bits := by
  apply BitVec.eq_of_getLsbD_eq
  intro i hi
  rw [BitVec.getLsbD_extractLsb', getLsbD_stimulusWord]
  simp [hi, show ¬ 28 + i < 8 by omega, show ¬ 28 + i < 24 by omega]

theorem stimulusWord_z (k : Kind) (a : Half) (d : Byte) : (stimulusWord k a d).extractLsb' 24 4 = 0#4 := by
  apply BitVec.eq_of_getLsbD_eq
  intro i hi
  rw [BitVec.getLsbD_extractLsb', getLsbD_stimulusWord]
  simp [show ¬ 24 + i < 8 by omega, show 24 + i < 28 by omega]

theorem stimulusWord_addr (k : Kind) (a : Half) (d : Byte) : (stimulusWord k a d).extractLsb' 8 16 = a := by
  apply BitVec.eq_of_getLsbD_eq
  intro i hi
  rw [BitVec.getLsbD_extractLsb', getLsbD_stimulusWord]
  simp [hi, show 8 + i < 24 by omega]

theorem stimulusWord_data (k : Kind) (a : Half) (d : Byte) : (stimulusWord k a d).extractLsb' 0 8 = d := by
  apply BitVec.eq_of_getLsbD_eq
  intro i hi
  rw [BitVec.getLsbD_extractLsb', getLsbD_stimulusWord]
  simp [hi]

@[simp] theorem Kind.ofBits_bits (k : Kind) : Kind.ofBits k.bits = some k := by
  cases k <;> rfl

/-- An assembled word decodes to its kind's operation on its fields. -/
theorem decode_stimulusWord (k : Kind) (a : Half) (d : Byte) (f : Nat) :
    decode ⟨stimulusWord k a d, f⟩ = .ok (decodeKind ⟨stimulusWord k a d, f⟩ k) := by
  unfold decode Stimulus.zBits Stimulus.kindBits
  rw [if_neg (by simp [stimulusWord_z]), stimulusWord_kind, Kind.ofBits_bits]

theorem decode_busWr (a : Half) (d : Byte) (f : Nat) : decode ⟨stimulusWord .busWr a d, f⟩ = .ok (decodeWrite a d) := by
  rw [decode_stimulusWord]; simp [decodeKind, Stimulus.addr, Stimulus.data, stimulusWord_addr, stimulusWord_data]

theorem decode_busRd (a : Half) (d : Byte) (f : Nat) : decode ⟨stimulusWord .busRd a d, f⟩ = .ok (decodeRead a) := by
  rw [decode_stimulusWord]; simp [decodeKind, Stimulus.addr, stimulusWord_addr]

end Sys2Proof
end

