-- ==== Sys2Proof/Laws/Memory.lean ====
section
/-! SUPPORT. The laws of a video-memory array: read after write, and that every operation keeps the canonical form. -/

namespace Sys2Proof.Machine

theorem Memory.read_put (init : Nat → Byte) (m : Memory) (i j : Nat) (v : Byte) :
    (m.put i v).read init j = if j = i then v else m.read init j := by
  induction m with
  | nil =>
    by_cases h : j = i
    · simp [Memory.put, Memory.read, h]
    · simp [Memory.put, Memory.read, h, Ne.symm h]
  | cons e rest ih =>
    obtain ⟨k, w⟩ := e
    unfold Memory.put
    split
    · by_cases h : j = i
      · simp [Memory.read, h]
      · simp [Memory.read, h, Ne.symm h]
    · split
      · next hk =>
        subst hk
        by_cases h : j = i
        · simp [Memory.read, h]
        · simp [Memory.read, h, Ne.symm h]
      · next hk =>
        by_cases hj : j = k
        · subst hj; simp [Memory.read, Ne.symm hk]
        · simp [Memory.read, Ne.symm hj, ih]

theorem Memory.read_erase (init : Nat → Byte) (m : Memory) (i j : Nat) :
    (m.erase i).read init j = if j = i then init i else m.read init j := by
  induction m with
  | nil =>
    by_cases h : j = i
    · simp [Memory.erase, Memory.read, h]
    · simp [Memory.erase, Memory.read, h]
  | cons e rest ih =>
    obtain ⟨k, w⟩ := e
    unfold Memory.erase at *
    by_cases hk : k = i
    · subst hk
      by_cases h : j = k
      · simpa [Memory.read, h] using ih
      · simpa [Memory.read, h, Ne.symm h] using ih
    · by_cases hj : j = k
      · subst hj; simp [Memory.read, hk]
      · simp [Memory.read, hk, Ne.symm hj, ih]

/-- A read after a write gives the byte written at that index, and every other index is left alone. -/
theorem Memory.read_write (init : Nat → Byte) (m : Memory) (i j : Nat) (v : Byte) :
    (m.write init i v).read init j = if j = i then v else m.read init j := by
  unfold Memory.write
  split
  · next h => rw [Memory.read_erase, h]
  · exact Memory.read_put init m i j v

theorem Memory.put_put (m : Memory) (i : Nat) (v : Byte) : (m.put i v).put i v = m.put i v := by
  induction m with
  | nil => simp [Memory.put]
  | cons e rest ih =>
    obtain ⟨k, w⟩ := e
    by_cases h1 : i < k
    · simp [Memory.put, h1]
    · by_cases h2 : i = k
      · subst h2; simp [Memory.put]
      · simp [Memory.put, h1, h2, ih]

/-- Writing the same byte again changes nothing (20_memory.md R57). -/
theorem Memory.write_write (init : Nat → Byte) (m : Memory) (i : Nat) (v : Byte) :
    (m.write init i v).write init i v = m.write init i v := by
  unfold Memory.write
  split
  · simp [Memory.erase, List.filter_filter]
  · exact Memory.put_put m i v

theorem Memory.risingFrom_mono {lo lo' : Nat} {m : Memory} (hl : lo ≤ lo') (h : m.risingFrom lo' = true) :
    m.risingFrom lo = true := by
  cases m with
  | nil => rfl
  | cons e rest =>
    simp only [Memory.risingFrom, Bool.and_eq_true, decide_eq_true_eq] at h ⊢
    exact ⟨by omega, h.2⟩

theorem Memory.risingFrom_put {lo i : Nat} {m : Memory} (v : Byte) (hi : lo ≤ i) (h : m.risingFrom lo = true) :
    (m.put i v).risingFrom lo = true := by
  induction m generalizing lo with
  | nil => simpa [Memory.put, Memory.risingFrom] using hi
  | cons e rest ih =>
    obtain ⟨k, w⟩ := e
    simp only [Memory.risingFrom, Bool.and_eq_true, decide_eq_true_eq] at h
    unfold Memory.put
    split
    · next hik => simp only [Memory.risingFrom, Bool.and_eq_true, decide_eq_true_eq]; exact ⟨hi, by omega, h.2⟩
    · split
      · next hk => subst hk; simpa only [Memory.risingFrom, Bool.and_eq_true, decide_eq_true_eq] using h
      · simp only [Memory.risingFrom, Bool.and_eq_true, decide_eq_true_eq]; exact ⟨h.1, ih (by omega) h.2⟩

theorem Memory.risingFrom_erase {lo : Nat} {m : Memory} (i : Nat) (h : m.risingFrom lo = true) :
    (m.erase i).risingFrom lo = true := by
  induction m generalizing lo with
  | nil => rfl
  | cons e rest ih =>
    obtain ⟨k, w⟩ := e
    simp only [Memory.risingFrom, Bool.and_eq_true, decide_eq_true_eq] at h
    unfold Memory.erase at *
    by_cases hk : k = i
    · subst hk
      simpa only [List.filter, bne_self_eq_false] using Memory.risingFrom_mono (by omega) (ih h.2)
    · have hb : (k != i) = true := by simpa using hk
      simp only [List.filter, hb, Memory.risingFrom, Bool.and_eq_true, decide_eq_true_eq]
      exact ⟨h.1, ih h.2⟩

theorem Memory.mem_put {m : Memory} {i : Nat} {v : Byte} {e : Host.Cell} (h : e ∈ m.put i v) : e = (i, v) ∨ e ∈ m := by
  induction m with
  | nil => simpa [Memory.put] using h
  | cons x rest ih =>
    obtain ⟨k, w⟩ := x
    unfold Memory.put at h
    split at h
    · simpa using h
    · split at h <;> simp only [List.mem_cons] at h ⊢
      · tauto
      · rcases h with h | h
        · exact .inr (.inl h)
        · rcases ih h with h | h <;> tauto

/-- An array with nothing listed is in canonical form. -/
theorem Memory.wf_nil (size : Nat) (init : Nat → Byte) : Memory.wf size init [] = true := rfl

/-- A write within the array keeps the canonical form. -/
theorem Memory.wf_write {size : Nat} {init : Nat → Byte} {m : Memory} {i : Nat} (v : Byte) (hi : i < size)
    (h : m.wf size init = true) : (m.write init i v).wf size init = true := by
  simp only [Memory.wf, Bool.and_eq_true, List.all_eq_true] at h ⊢
  unfold Memory.write
  split
  · exact ⟨Memory.risingFrom_erase i h.1, fun e he => h.2 e (List.mem_of_mem_filter he)⟩
  · next hv =>
    refine ⟨Memory.risingFrom_put v (Nat.zero_le i) h.1, fun e he => ?_⟩
    rcases Memory.mem_put he with rfl | he
    · simpa using ⟨hi, hv⟩
    · exact h.2 e he

end Sys2Proof.Machine
end

