-- ==== Sys2Proof/Laws/State.lean ====
section
/-! SUPPORT. What each named update of the state does to each field, so that no proof unfolds a record update. -/

namespace Sys2Proof.Machine

variable (s : State)

/-! Giving a two-phase register a value. -/

@[simp] theorem setWord_window1Base_window1Base (v : Half) : (s.setWord .window1Base v).window1Base = v := rfl
@[simp] theorem setWord_window1Base_window1End (v : Half) : (s.setWord .window1Base v).window1End = s.window1End := rfl
@[simp] theorem setWord_window1Base_window2Base (v : Half) : (s.setWord .window1Base v).window2Base = s.window2Base := rfl
@[simp] theorem setWord_window1Base_cursorBase (v : Half) : (s.setWord .window1Base v).cursorBase = s.cursorBase := rfl
@[simp] theorem setWord_window1Base_cursorStart (v : Half) : (s.setWord .window1Base v).cursorStart = s.cursorStart := rfl
@[simp] theorem setWord_window1Base_cursorEnd (v : Half) : (s.setWord .window1Base v).cursorEnd = s.cursorEnd := rfl
@[simp] theorem setWord_window1Base_screenCtrl (v : Half) : (s.setWord .window1Base v).screenCtrl = s.screenCtrl := rfl
@[simp] theorem setWord_window1Base_unkStatus (v : Half) : (s.setWord .window1Base v).unkStatus = s.unkStatus := rfl
@[simp] theorem setWord_window1Base_bellCtrl (v : Half) : (s.setWord .window1Base v).bellCtrl = s.bellCtrl := rfl
@[simp] theorem setWord_window1Base_vectorLatch (v : Half) : (s.setWord .window1Base v).vectorLatch = s.vectorLatch := rfl
@[simp] theorem setWord_window1Base_irqOut (v : Half) : (s.setWord .window1Base v).irqOut = s.irqOut := rfl
@[simp] theorem setWord_window1Base_codes (v : Half) : (s.setWord .window1Base v).codes = s.codes := rfl
@[simp] theorem setWord_window1Base_attrs (v : Half) : (s.setWord .window1Base v).attrs = s.attrs := rfl
@[simp] theorem setWord_window1Base_inbox (v : Half) : (s.setWord .window1Base v).inbox = s.inbox := rfl
@[simp] theorem setWord_window1Base_outputs (v : Half) : (s.setWord .window1Base v).outputs = s.outputs := rfl
@[simp] theorem setWord_window1Base_draws (v : Half) : (s.setWord .window1Base v).draws = s.draws := rfl
@[simp] theorem setWord_window1End_window1Base (v : Half) : (s.setWord .window1End v).window1Base = s.window1Base := rfl
@[simp] theorem setWord_window1End_window1End (v : Half) : (s.setWord .window1End v).window1End = v := rfl
@[simp] theorem setWord_window1End_window2Base (v : Half) : (s.setWord .window1End v).window2Base = s.window2Base := rfl
@[simp] theorem setWord_window1End_cursorBase (v : Half) : (s.setWord .window1End v).cursorBase = s.cursorBase := rfl
@[simp] theorem setWord_window1End_cursorStart (v : Half) : (s.setWord .window1End v).cursorStart = s.cursorStart := rfl
@[simp] theorem setWord_window1End_cursorEnd (v : Half) : (s.setWord .window1End v).cursorEnd = s.cursorEnd := rfl
@[simp] theorem setWord_window1End_screenCtrl (v : Half) : (s.setWord .window1End v).screenCtrl = s.screenCtrl := rfl
@[simp] theorem setWord_window1End_unkStatus (v : Half) : (s.setWord .window1End v).unkStatus = s.unkStatus := rfl
@[simp] theorem setWord_window1End_bellCtrl (v : Half) : (s.setWord .window1End v).bellCtrl = s.bellCtrl := rfl
@[simp] theorem setWord_window1End_vectorLatch (v : Half) : (s.setWord .window1End v).vectorLatch = s.vectorLatch := rfl
@[simp] theorem setWord_window1End_irqOut (v : Half) : (s.setWord .window1End v).irqOut = s.irqOut := rfl
@[simp] theorem setWord_window1End_codes (v : Half) : (s.setWord .window1End v).codes = s.codes := rfl
@[simp] theorem setWord_window1End_attrs (v : Half) : (s.setWord .window1End v).attrs = s.attrs := rfl
@[simp] theorem setWord_window1End_inbox (v : Half) : (s.setWord .window1End v).inbox = s.inbox := rfl
@[simp] theorem setWord_window1End_outputs (v : Half) : (s.setWord .window1End v).outputs = s.outputs := rfl
@[simp] theorem setWord_window1End_draws (v : Half) : (s.setWord .window1End v).draws = s.draws := rfl
@[simp] theorem setWord_window2Base_window1Base (v : Half) : (s.setWord .window2Base v).window1Base = s.window1Base := rfl
@[simp] theorem setWord_window2Base_window1End (v : Half) : (s.setWord .window2Base v).window1End = s.window1End := rfl
@[simp] theorem setWord_window2Base_window2Base (v : Half) : (s.setWord .window2Base v).window2Base = v := rfl
@[simp] theorem setWord_window2Base_cursorBase (v : Half) : (s.setWord .window2Base v).cursorBase = s.cursorBase := rfl
@[simp] theorem setWord_window2Base_cursorStart (v : Half) : (s.setWord .window2Base v).cursorStart = s.cursorStart := rfl
@[simp] theorem setWord_window2Base_cursorEnd (v : Half) : (s.setWord .window2Base v).cursorEnd = s.cursorEnd := rfl
@[simp] theorem setWord_window2Base_screenCtrl (v : Half) : (s.setWord .window2Base v).screenCtrl = s.screenCtrl := rfl
@[simp] theorem setWord_window2Base_unkStatus (v : Half) : (s.setWord .window2Base v).unkStatus = s.unkStatus := rfl
@[simp] theorem setWord_window2Base_bellCtrl (v : Half) : (s.setWord .window2Base v).bellCtrl = s.bellCtrl := rfl
@[simp] theorem setWord_window2Base_vectorLatch (v : Half) : (s.setWord .window2Base v).vectorLatch = s.vectorLatch := rfl
@[simp] theorem setWord_window2Base_irqOut (v : Half) : (s.setWord .window2Base v).irqOut = s.irqOut := rfl
@[simp] theorem setWord_window2Base_codes (v : Half) : (s.setWord .window2Base v).codes = s.codes := rfl
@[simp] theorem setWord_window2Base_attrs (v : Half) : (s.setWord .window2Base v).attrs = s.attrs := rfl
@[simp] theorem setWord_window2Base_inbox (v : Half) : (s.setWord .window2Base v).inbox = s.inbox := rfl
@[simp] theorem setWord_window2Base_outputs (v : Half) : (s.setWord .window2Base v).outputs = s.outputs := rfl
@[simp] theorem setWord_window2Base_draws (v : Half) : (s.setWord .window2Base v).draws = s.draws := rfl
@[simp] theorem setWord_cursorBase_window1Base (v : Half) : (s.setWord .cursorBase v).window1Base = s.window1Base := rfl
@[simp] theorem setWord_cursorBase_window1End (v : Half) : (s.setWord .cursorBase v).window1End = s.window1End := rfl
@[simp] theorem setWord_cursorBase_window2Base (v : Half) : (s.setWord .cursorBase v).window2Base = s.window2Base := rfl
@[simp] theorem setWord_cursorBase_cursorBase (v : Half) : (s.setWord .cursorBase v).cursorBase = v := rfl
@[simp] theorem setWord_cursorBase_cursorStart (v : Half) : (s.setWord .cursorBase v).cursorStart = s.cursorStart := rfl
@[simp] theorem setWord_cursorBase_cursorEnd (v : Half) : (s.setWord .cursorBase v).cursorEnd = s.cursorEnd := rfl
@[simp] theorem setWord_cursorBase_screenCtrl (v : Half) : (s.setWord .cursorBase v).screenCtrl = s.screenCtrl := rfl
@[simp] theorem setWord_cursorBase_unkStatus (v : Half) : (s.setWord .cursorBase v).unkStatus = s.unkStatus := rfl
@[simp] theorem setWord_cursorBase_bellCtrl (v : Half) : (s.setWord .cursorBase v).bellCtrl = s.bellCtrl := rfl
@[simp] theorem setWord_cursorBase_vectorLatch (v : Half) : (s.setWord .cursorBase v).vectorLatch = s.vectorLatch := rfl
@[simp] theorem setWord_cursorBase_irqOut (v : Half) : (s.setWord .cursorBase v).irqOut = s.irqOut := rfl
@[simp] theorem setWord_cursorBase_codes (v : Half) : (s.setWord .cursorBase v).codes = s.codes := rfl
@[simp] theorem setWord_cursorBase_attrs (v : Half) : (s.setWord .cursorBase v).attrs = s.attrs := rfl
@[simp] theorem setWord_cursorBase_inbox (v : Half) : (s.setWord .cursorBase v).inbox = s.inbox := rfl
@[simp] theorem setWord_cursorBase_outputs (v : Half) : (s.setWord .cursorBase v).outputs = s.outputs := rfl
@[simp] theorem setWord_cursorBase_draws (v : Half) : (s.setWord .cursorBase v).draws = s.draws := rfl
@[simp] theorem setWord_cursorStart (r : WordReg) (v : Half) : (s.setWord r v).cursorStart = s.cursorStart := by cases r <;> rfl
@[simp] theorem setWord_cursorEnd (r : WordReg) (v : Half) : (s.setWord r v).cursorEnd = s.cursorEnd := by cases r <;> rfl
@[simp] theorem setWord_screenCtrl (r : WordReg) (v : Half) : (s.setWord r v).screenCtrl = s.screenCtrl := by cases r <;> rfl
@[simp] theorem setWord_unkStatus (r : WordReg) (v : Half) : (s.setWord r v).unkStatus = s.unkStatus := by cases r <;> rfl
@[simp] theorem setWord_bellCtrl (r : WordReg) (v : Half) : (s.setWord r v).bellCtrl = s.bellCtrl := by cases r <;> rfl
@[simp] theorem setWord_vectorLatch (r : WordReg) (v : Half) : (s.setWord r v).vectorLatch = s.vectorLatch := by cases r <;> rfl
@[simp] theorem setWord_irqOut (r : WordReg) (v : Half) : (s.setWord r v).irqOut = s.irqOut := by cases r <;> rfl
@[simp] theorem setWord_codes (r : WordReg) (v : Half) : (s.setWord r v).codes = s.codes := by cases r <;> rfl
@[simp] theorem setWord_attrs (r : WordReg) (v : Half) : (s.setWord r v).attrs = s.attrs := by cases r <;> rfl
@[simp] theorem setWord_inbox (r : WordReg) (v : Half) : (s.setWord r v).inbox = s.inbox := by cases r <;> rfl
@[simp] theorem setWord_outputs (r : WordReg) (v : Half) : (s.setWord r v).outputs = s.outputs := by cases r <;> rfl
@[simp] theorem setWord_draws (r : WordReg) (v : Half) : (s.setWord r v).draws = s.draws := by cases r <;> rfl
@[simp] theorem getWord_setWord (r : WordReg) (v : Half) : (s.setWord r v).getWord r = v := by cases r <;> rfl
theorem getWord_setWord_ne (q r : WordReg) (v : Half) (h : q ≠ r) : (s.setWord r v).getWord q = s.getWord q := by
  cases q <;> cases r <;> first | rfl | exact absurd rfl h

/-! Giving a single-byte register a value. -/

@[simp] theorem setByte_cursorStart_window1Base (v : Byte) : (s.setByte .cursorStart v).window1Base = s.window1Base := rfl
@[simp] theorem setByte_cursorStart_window1End (v : Byte) : (s.setByte .cursorStart v).window1End = s.window1End := rfl
@[simp] theorem setByte_cursorStart_window2Base (v : Byte) : (s.setByte .cursorStart v).window2Base = s.window2Base := rfl
@[simp] theorem setByte_cursorStart_cursorBase (v : Byte) : (s.setByte .cursorStart v).cursorBase = s.cursorBase := rfl
@[simp] theorem setByte_cursorStart_cursorStart (v : Byte) : (s.setByte .cursorStart v).cursorStart = v := rfl
@[simp] theorem setByte_cursorStart_cursorEnd (v : Byte) : (s.setByte .cursorStart v).cursorEnd = s.cursorEnd := rfl
@[simp] theorem setByte_cursorStart_screenCtrl (v : Byte) : (s.setByte .cursorStart v).screenCtrl = s.screenCtrl := rfl
@[simp] theorem setByte_cursorStart_unkStatus (v : Byte) : (s.setByte .cursorStart v).unkStatus = s.unkStatus := rfl
@[simp] theorem setByte_cursorStart_bellCtrl (v : Byte) : (s.setByte .cursorStart v).bellCtrl = s.bellCtrl := rfl
@[simp] theorem setByte_cursorStart_vectorLatch (v : Byte) : (s.setByte .cursorStart v).vectorLatch = s.vectorLatch := rfl
@[simp] theorem setByte_cursorStart_irqOut (v : Byte) : (s.setByte .cursorStart v).irqOut = s.irqOut := rfl
@[simp] theorem setByte_cursorStart_codes (v : Byte) : (s.setByte .cursorStart v).codes = s.codes := rfl
@[simp] theorem setByte_cursorStart_attrs (v : Byte) : (s.setByte .cursorStart v).attrs = s.attrs := rfl
@[simp] theorem setByte_cursorStart_inbox (v : Byte) : (s.setByte .cursorStart v).inbox = s.inbox := rfl
@[simp] theorem setByte_cursorStart_outputs (v : Byte) : (s.setByte .cursorStart v).outputs = s.outputs := rfl
@[simp] theorem setByte_cursorStart_draws (v : Byte) : (s.setByte .cursorStart v).draws = s.draws := rfl
@[simp] theorem setByte_cursorEnd_window1Base (v : Byte) : (s.setByte .cursorEnd v).window1Base = s.window1Base := rfl
@[simp] theorem setByte_cursorEnd_window1End (v : Byte) : (s.setByte .cursorEnd v).window1End = s.window1End := rfl
@[simp] theorem setByte_cursorEnd_window2Base (v : Byte) : (s.setByte .cursorEnd v).window2Base = s.window2Base := rfl
@[simp] theorem setByte_cursorEnd_cursorBase (v : Byte) : (s.setByte .cursorEnd v).cursorBase = s.cursorBase := rfl
@[simp] theorem setByte_cursorEnd_cursorStart (v : Byte) : (s.setByte .cursorEnd v).cursorStart = s.cursorStart := rfl
@[simp] theorem setByte_cursorEnd_cursorEnd (v : Byte) : (s.setByte .cursorEnd v).cursorEnd = v := rfl
@[simp] theorem setByte_cursorEnd_screenCtrl (v : Byte) : (s.setByte .cursorEnd v).screenCtrl = s.screenCtrl := rfl
@[simp] theorem setByte_cursorEnd_unkStatus (v : Byte) : (s.setByte .cursorEnd v).unkStatus = s.unkStatus := rfl
@[simp] theorem setByte_cursorEnd_bellCtrl (v : Byte) : (s.setByte .cursorEnd v).bellCtrl = s.bellCtrl := rfl
@[simp] theorem setByte_cursorEnd_vectorLatch (v : Byte) : (s.setByte .cursorEnd v).vectorLatch = s.vectorLatch := rfl
@[simp] theorem setByte_cursorEnd_irqOut (v : Byte) : (s.setByte .cursorEnd v).irqOut = s.irqOut := rfl
@[simp] theorem setByte_cursorEnd_codes (v : Byte) : (s.setByte .cursorEnd v).codes = s.codes := rfl
@[simp] theorem setByte_cursorEnd_attrs (v : Byte) : (s.setByte .cursorEnd v).attrs = s.attrs := rfl
@[simp] theorem setByte_cursorEnd_inbox (v : Byte) : (s.setByte .cursorEnd v).inbox = s.inbox := rfl
@[simp] theorem setByte_cursorEnd_outputs (v : Byte) : (s.setByte .cursorEnd v).outputs = s.outputs := rfl
@[simp] theorem setByte_cursorEnd_draws (v : Byte) : (s.setByte .cursorEnd v).draws = s.draws := rfl
@[simp] theorem setByte_screenCtrl_window1Base (v : Byte) : (s.setByte .screenCtrl v).window1Base = s.window1Base := rfl
@[simp] theorem setByte_screenCtrl_window1End (v : Byte) : (s.setByte .screenCtrl v).window1End = s.window1End := rfl
@[simp] theorem setByte_screenCtrl_window2Base (v : Byte) : (s.setByte .screenCtrl v).window2Base = s.window2Base := rfl
@[simp] theorem setByte_screenCtrl_cursorBase (v : Byte) : (s.setByte .screenCtrl v).cursorBase = s.cursorBase := rfl
@[simp] theorem setByte_screenCtrl_cursorStart (v : Byte) : (s.setByte .screenCtrl v).cursorStart = s.cursorStart := rfl
@[simp] theorem setByte_screenCtrl_cursorEnd (v : Byte) : (s.setByte .screenCtrl v).cursorEnd = s.cursorEnd := rfl
@[simp] theorem setByte_screenCtrl_screenCtrl (v : Byte) : (s.setByte .screenCtrl v).screenCtrl = v := rfl
@[simp] theorem setByte_screenCtrl_unkStatus (v : Byte) : (s.setByte .screenCtrl v).unkStatus = s.unkStatus := rfl
@[simp] theorem setByte_screenCtrl_bellCtrl (v : Byte) : (s.setByte .screenCtrl v).bellCtrl = s.bellCtrl := rfl
@[simp] theorem setByte_screenCtrl_vectorLatch (v : Byte) : (s.setByte .screenCtrl v).vectorLatch = s.vectorLatch := rfl
@[simp] theorem setByte_screenCtrl_irqOut (v : Byte) : (s.setByte .screenCtrl v).irqOut = s.irqOut := rfl
@[simp] theorem setByte_screenCtrl_codes (v : Byte) : (s.setByte .screenCtrl v).codes = s.codes := rfl
@[simp] theorem setByte_screenCtrl_attrs (v : Byte) : (s.setByte .screenCtrl v).attrs = s.attrs := rfl
@[simp] theorem setByte_screenCtrl_inbox (v : Byte) : (s.setByte .screenCtrl v).inbox = s.inbox := rfl
@[simp] theorem setByte_screenCtrl_outputs (v : Byte) : (s.setByte .screenCtrl v).outputs = s.outputs := rfl
@[simp] theorem setByte_screenCtrl_draws (v : Byte) : (s.setByte .screenCtrl v).draws = s.draws := rfl
@[simp] theorem setByte_unkStatus_window1Base (v : Byte) : (s.setByte .unkStatus v).window1Base = s.window1Base := rfl
@[simp] theorem setByte_unkStatus_window1End (v : Byte) : (s.setByte .unkStatus v).window1End = s.window1End := rfl
@[simp] theorem setByte_unkStatus_window2Base (v : Byte) : (s.setByte .unkStatus v).window2Base = s.window2Base := rfl
@[simp] theorem setByte_unkStatus_cursorBase (v : Byte) : (s.setByte .unkStatus v).cursorBase = s.cursorBase := rfl
@[simp] theorem setByte_unkStatus_cursorStart (v : Byte) : (s.setByte .unkStatus v).cursorStart = s.cursorStart := rfl
@[simp] theorem setByte_unkStatus_cursorEnd (v : Byte) : (s.setByte .unkStatus v).cursorEnd = s.cursorEnd := rfl
@[simp] theorem setByte_unkStatus_screenCtrl (v : Byte) : (s.setByte .unkStatus v).screenCtrl = s.screenCtrl := rfl
@[simp] theorem setByte_unkStatus_unkStatus (v : Byte) : (s.setByte .unkStatus v).unkStatus = v := rfl
@[simp] theorem setByte_unkStatus_bellCtrl (v : Byte) : (s.setByte .unkStatus v).bellCtrl = s.bellCtrl := rfl
@[simp] theorem setByte_unkStatus_vectorLatch (v : Byte) : (s.setByte .unkStatus v).vectorLatch = s.vectorLatch := rfl
@[simp] theorem setByte_unkStatus_irqOut (v : Byte) : (s.setByte .unkStatus v).irqOut = s.irqOut := rfl
@[simp] theorem setByte_unkStatus_codes (v : Byte) : (s.setByte .unkStatus v).codes = s.codes := rfl
@[simp] theorem setByte_unkStatus_attrs (v : Byte) : (s.setByte .unkStatus v).attrs = s.attrs := rfl
@[simp] theorem setByte_unkStatus_inbox (v : Byte) : (s.setByte .unkStatus v).inbox = s.inbox := rfl
@[simp] theorem setByte_unkStatus_outputs (v : Byte) : (s.setByte .unkStatus v).outputs = s.outputs := rfl
@[simp] theorem setByte_unkStatus_draws (v : Byte) : (s.setByte .unkStatus v).draws = s.draws := rfl
@[simp] theorem setByte_bellCtrl_window1Base (v : Byte) : (s.setByte .bellCtrl v).window1Base = s.window1Base := rfl
@[simp] theorem setByte_bellCtrl_window1End (v : Byte) : (s.setByte .bellCtrl v).window1End = s.window1End := rfl
@[simp] theorem setByte_bellCtrl_window2Base (v : Byte) : (s.setByte .bellCtrl v).window2Base = s.window2Base := rfl
@[simp] theorem setByte_bellCtrl_cursorBase (v : Byte) : (s.setByte .bellCtrl v).cursorBase = s.cursorBase := rfl
@[simp] theorem setByte_bellCtrl_cursorStart (v : Byte) : (s.setByte .bellCtrl v).cursorStart = s.cursorStart := rfl
@[simp] theorem setByte_bellCtrl_cursorEnd (v : Byte) : (s.setByte .bellCtrl v).cursorEnd = s.cursorEnd := rfl
@[simp] theorem setByte_bellCtrl_screenCtrl (v : Byte) : (s.setByte .bellCtrl v).screenCtrl = s.screenCtrl := rfl
@[simp] theorem setByte_bellCtrl_unkStatus (v : Byte) : (s.setByte .bellCtrl v).unkStatus = s.unkStatus := rfl
@[simp] theorem setByte_bellCtrl_bellCtrl (v : Byte) : (s.setByte .bellCtrl v).bellCtrl = v := rfl
@[simp] theorem setByte_bellCtrl_vectorLatch (v : Byte) : (s.setByte .bellCtrl v).vectorLatch = s.vectorLatch := rfl
@[simp] theorem setByte_bellCtrl_irqOut (v : Byte) : (s.setByte .bellCtrl v).irqOut = s.irqOut := rfl
@[simp] theorem setByte_bellCtrl_codes (v : Byte) : (s.setByte .bellCtrl v).codes = s.codes := rfl
@[simp] theorem setByte_bellCtrl_attrs (v : Byte) : (s.setByte .bellCtrl v).attrs = s.attrs := rfl
@[simp] theorem setByte_bellCtrl_inbox (v : Byte) : (s.setByte .bellCtrl v).inbox = s.inbox := rfl
@[simp] theorem setByte_bellCtrl_outputs (v : Byte) : (s.setByte .bellCtrl v).outputs = s.outputs := rfl
@[simp] theorem setByte_bellCtrl_draws (v : Byte) : (s.setByte .bellCtrl v).draws = s.draws := rfl
@[simp] theorem setByte_window1Base (r : ByteReg) (v : Byte) : (s.setByte r v).window1Base = s.window1Base := by cases r <;> rfl
@[simp] theorem setByte_window1End (r : ByteReg) (v : Byte) : (s.setByte r v).window1End = s.window1End := by cases r <;> rfl
@[simp] theorem setByte_window2Base (r : ByteReg) (v : Byte) : (s.setByte r v).window2Base = s.window2Base := by cases r <;> rfl
@[simp] theorem setByte_cursorBase (r : ByteReg) (v : Byte) : (s.setByte r v).cursorBase = s.cursorBase := by cases r <;> rfl
@[simp] theorem setByte_vectorLatch (r : ByteReg) (v : Byte) : (s.setByte r v).vectorLatch = s.vectorLatch := by cases r <;> rfl
@[simp] theorem setByte_irqOut (r : ByteReg) (v : Byte) : (s.setByte r v).irqOut = s.irqOut := by cases r <;> rfl
@[simp] theorem setByte_codes (r : ByteReg) (v : Byte) : (s.setByte r v).codes = s.codes := by cases r <;> rfl
@[simp] theorem setByte_attrs (r : ByteReg) (v : Byte) : (s.setByte r v).attrs = s.attrs := by cases r <;> rfl
@[simp] theorem setByte_inbox (r : ByteReg) (v : Byte) : (s.setByte r v).inbox = s.inbox := by cases r <;> rfl
@[simp] theorem setByte_outputs (r : ByteReg) (v : Byte) : (s.setByte r v).outputs = s.outputs := by cases r <;> rfl
@[simp] theorem setByte_draws (r : ByteReg) (v : Byte) : (s.setByte r v).draws = s.draws := by cases r <;> rfl
@[simp] theorem getByte_setByte (r : ByteReg) (v : Byte) : (s.setByte r v).getByte r = v := by cases r <;> rfl
theorem getByte_setByte_ne (q r : ByteReg) (v : Byte) (h : q ≠ r) : (s.setByte r v).getByte q = s.getByte q := by
  cases q <;> cases r <;> first | rfl | exact absurd rfl h

/-! Driving the outputs. -/

@[simp] theorem drive_window1Base (os : List Output) : (s.drive os).window1Base = s.window1Base := rfl
@[simp] theorem drive_window1End (os : List Output) : (s.drive os).window1End = s.window1End := rfl
@[simp] theorem drive_window2Base (os : List Output) : (s.drive os).window2Base = s.window2Base := rfl
@[simp] theorem drive_cursorBase (os : List Output) : (s.drive os).cursorBase = s.cursorBase := rfl
@[simp] theorem drive_cursorStart (os : List Output) : (s.drive os).cursorStart = s.cursorStart := rfl
@[simp] theorem drive_cursorEnd (os : List Output) : (s.drive os).cursorEnd = s.cursorEnd := rfl
@[simp] theorem drive_screenCtrl (os : List Output) : (s.drive os).screenCtrl = s.screenCtrl := rfl
@[simp] theorem drive_unkStatus (os : List Output) : (s.drive os).unkStatus = s.unkStatus := rfl
@[simp] theorem drive_bellCtrl (os : List Output) : (s.drive os).bellCtrl = s.bellCtrl := rfl
@[simp] theorem drive_vectorLatch (os : List Output) : (s.drive os).vectorLatch = s.vectorLatch := rfl
@[simp] theorem drive_irqOut (os : List Output) : (s.drive os).irqOut = s.irqOut := rfl
@[simp] theorem drive_codes (os : List Output) : (s.drive os).codes = s.codes := rfl
@[simp] theorem drive_attrs (os : List Output) : (s.drive os).attrs = s.attrs := rfl
@[simp] theorem drive_inbox (os : List Output) : (s.drive os).inbox = s.inbox := rfl
@[simp] theorem drive_outputs (os : List Output) : (s.drive os).outputs = os := rfl
@[simp] theorem drive_draws (os : List Output) : (s.drive os).draws = s.draws := rfl

/-! Returning a draw. -/

@[simp] theorem returnDraw_window1Base : (s.returnDraw).window1Base = s.window1Base := rfl
@[simp] theorem returnDraw_window1End : (s.returnDraw).window1End = s.window1End := rfl
@[simp] theorem returnDraw_window2Base : (s.returnDraw).window2Base = s.window2Base := rfl
@[simp] theorem returnDraw_cursorBase : (s.returnDraw).cursorBase = s.cursorBase := rfl
@[simp] theorem returnDraw_cursorStart : (s.returnDraw).cursorStart = s.cursorStart := rfl
@[simp] theorem returnDraw_cursorEnd : (s.returnDraw).cursorEnd = s.cursorEnd := rfl
@[simp] theorem returnDraw_screenCtrl : (s.returnDraw).screenCtrl = s.screenCtrl := rfl
@[simp] theorem returnDraw_unkStatus : (s.returnDraw).unkStatus = s.unkStatus := rfl
@[simp] theorem returnDraw_bellCtrl : (s.returnDraw).bellCtrl = s.bellCtrl := rfl
@[simp] theorem returnDraw_vectorLatch : (s.returnDraw).vectorLatch = s.vectorLatch := rfl
@[simp] theorem returnDraw_irqOut : (s.returnDraw).irqOut = s.irqOut := rfl
@[simp] theorem returnDraw_codes : (s.returnDraw).codes = s.codes := rfl
@[simp] theorem returnDraw_attrs : (s.returnDraw).attrs = s.attrs := rfl
@[simp] theorem returnDraw_inbox : (s.returnDraw).inbox = s.inbox := rfl
@[simp] theorem returnDraw_outputs : (s.returnDraw).outputs = [.data (Config.draw s.draws)] := rfl
@[simp] theorem returnDraw_draws : (s.returnDraw).draws = s.draws + 1 := rfl

/-! Entering an interrupt. -/

@[simp] theorem enterInterrupt_window1Base (v : Byte) : (s.enterInterrupt v).window1Base = s.window1Base := rfl
@[simp] theorem enterInterrupt_window1End (v : Byte) : (s.enterInterrupt v).window1End = s.window1End := rfl
@[simp] theorem enterInterrupt_window2Base (v : Byte) : (s.enterInterrupt v).window2Base = s.window2Base := rfl
@[simp] theorem enterInterrupt_cursorBase (v : Byte) : (s.enterInterrupt v).cursorBase = s.cursorBase := rfl
@[simp] theorem enterInterrupt_cursorStart (v : Byte) : (s.enterInterrupt v).cursorStart = s.cursorStart := rfl
@[simp] theorem enterInterrupt_cursorEnd (v : Byte) : (s.enterInterrupt v).cursorEnd = s.cursorEnd := rfl
@[simp] theorem enterInterrupt_screenCtrl (v : Byte) : (s.enterInterrupt v).screenCtrl = s.screenCtrl := rfl
@[simp] theorem enterInterrupt_unkStatus (v : Byte) : (s.enterInterrupt v).unkStatus = s.unkStatus := rfl
@[simp] theorem enterInterrupt_bellCtrl (v : Byte) : (s.enterInterrupt v).bellCtrl = s.bellCtrl := rfl
@[simp] theorem enterInterrupt_vectorLatch (v : Byte) : (s.enterInterrupt v).vectorLatch = v := rfl
@[simp] theorem enterInterrupt_irqOut (v : Byte) : (s.enterInterrupt v).irqOut = true := rfl
@[simp] theorem enterInterrupt_codes (v : Byte) : (s.enterInterrupt v).codes = s.codes := rfl
@[simp] theorem enterInterrupt_attrs (v : Byte) : (s.enterInterrupt v).attrs = s.attrs := rfl
@[simp] theorem enterInterrupt_inbox (v : Byte) : (s.enterInterrupt v).inbox = s.inbox := rfl
@[simp] theorem enterInterrupt_outputs (v : Byte) : (s.enterInterrupt v).outputs = [.irq true] := rfl
@[simp] theorem enterInterrupt_draws (v : Byte) : (s.enterInterrupt v).draws = s.draws := rfl

/-! Servicing an interrupt. -/

@[simp] theorem serviceInterrupt_window1Base : (s.serviceInterrupt).window1Base = s.window1Base := rfl
@[simp] theorem serviceInterrupt_window1End : (s.serviceInterrupt).window1End = s.window1End := rfl
@[simp] theorem serviceInterrupt_window2Base : (s.serviceInterrupt).window2Base = s.window2Base := rfl
@[simp] theorem serviceInterrupt_cursorBase : (s.serviceInterrupt).cursorBase = s.cursorBase := rfl
@[simp] theorem serviceInterrupt_cursorStart : (s.serviceInterrupt).cursorStart = s.cursorStart := rfl
@[simp] theorem serviceInterrupt_cursorEnd : (s.serviceInterrupt).cursorEnd = s.cursorEnd := rfl
@[simp] theorem serviceInterrupt_screenCtrl : (s.serviceInterrupt).screenCtrl = s.screenCtrl := rfl
@[simp] theorem serviceInterrupt_unkStatus : (s.serviceInterrupt).unkStatus = s.unkStatus := rfl
@[simp] theorem serviceInterrupt_bellCtrl : (s.serviceInterrupt).bellCtrl = s.bellCtrl := rfl
@[simp] theorem serviceInterrupt_vectorLatch : (s.serviceInterrupt).vectorLatch = s.vectorLatch := rfl
@[simp] theorem serviceInterrupt_irqOut : (s.serviceInterrupt).irqOut = false := rfl
@[simp] theorem serviceInterrupt_codes : (s.serviceInterrupt).codes = s.codes := rfl
@[simp] theorem serviceInterrupt_attrs : (s.serviceInterrupt).attrs = s.attrs := rfl
@[simp] theorem serviceInterrupt_inbox : (s.serviceInterrupt).inbox = s.inbox := rfl
@[simp] theorem serviceInterrupt_outputs : (s.serviceInterrupt).outputs = [.irq false] := rfl
@[simp] theorem serviceInterrupt_draws : (s.serviceInterrupt).draws = s.draws := rfl

/-! Consuming the cause. -/

@[simp] theorem consumeCause_window1Base : (s.consumeCause).window1Base = s.window1Base := rfl
@[simp] theorem consumeCause_window1End : (s.consumeCause).window1End = s.window1End := rfl
@[simp] theorem consumeCause_window2Base : (s.consumeCause).window2Base = s.window2Base := rfl
@[simp] theorem consumeCause_cursorBase : (s.consumeCause).cursorBase = s.cursorBase := rfl
@[simp] theorem consumeCause_cursorStart : (s.consumeCause).cursorStart = s.cursorStart := rfl
@[simp] theorem consumeCause_cursorEnd : (s.consumeCause).cursorEnd = s.cursorEnd := rfl
@[simp] theorem consumeCause_screenCtrl : (s.consumeCause).screenCtrl = s.screenCtrl := rfl
@[simp] theorem consumeCause_unkStatus : (s.consumeCause).unkStatus = s.unkStatus := rfl
@[simp] theorem consumeCause_bellCtrl : (s.consumeCause).bellCtrl = s.bellCtrl := rfl
@[simp] theorem consumeCause_vectorLatch : (s.consumeCause).vectorLatch = 0x00 := rfl
@[simp] theorem consumeCause_irqOut : (s.consumeCause).irqOut = s.irqOut := rfl
@[simp] theorem consumeCause_codes : (s.consumeCause).codes = s.codes := rfl
@[simp] theorem consumeCause_attrs : (s.consumeCause).attrs = s.attrs := rfl
@[simp] theorem consumeCause_inbox : (s.consumeCause).inbox = s.inbox := rfl
@[simp] theorem consumeCause_outputs : (s.consumeCause).outputs = [.data s.vectorLatch] := rfl
@[simp] theorem consumeCause_draws : (s.consumeCause).draws = s.draws := rfl

/-! Machine reset. -/

@[simp] theorem machineReset_window1Base : (s.machineReset).window1Base = s.window1Base := rfl
@[simp] theorem machineReset_window1End : (s.machineReset).window1End = s.window1End := rfl
@[simp] theorem machineReset_window2Base : (s.machineReset).window2Base = s.window2Base := rfl
@[simp] theorem machineReset_cursorBase : (s.machineReset).cursorBase = s.cursorBase := rfl
@[simp] theorem machineReset_cursorStart : (s.machineReset).cursorStart = s.cursorStart := rfl
@[simp] theorem machineReset_cursorEnd : (s.machineReset).cursorEnd = s.cursorEnd := rfl
@[simp] theorem machineReset_screenCtrl : (s.machineReset).screenCtrl = s.screenCtrl := rfl
@[simp] theorem machineReset_unkStatus : (s.machineReset).unkStatus = s.unkStatus := rfl
@[simp] theorem machineReset_bellCtrl : (s.machineReset).bellCtrl = s.bellCtrl := rfl
@[simp] theorem machineReset_vectorLatch : (s.machineReset).vectorLatch = 0x00 := rfl
@[simp] theorem machineReset_irqOut : (s.machineReset).irqOut = false := rfl
@[simp] theorem machineReset_codes : (s.machineReset).codes = s.codes := rfl
@[simp] theorem machineReset_attrs : (s.machineReset).attrs = s.attrs := rfl
@[simp] theorem machineReset_inbox : (s.machineReset).inbox = s.inbox := rfl
@[simp] theorem machineReset_outputs : (s.machineReset).outputs = [.irq false] := rfl
@[simp] theorem machineReset_draws : (s.machineReset).draws = s.draws := rfl

/-! Power-on. -/

@[simp] theorem powerUp_window1Base : (s.powerUp).window1Base = 0x0000 := rfl
@[simp] theorem powerUp_window1End : (s.powerUp).window1End = 0x0000 := rfl
@[simp] theorem powerUp_window2Base : (s.powerUp).window2Base = 0x0000 := rfl
@[simp] theorem powerUp_cursorBase : (s.powerUp).cursorBase = 0x0000 := rfl
@[simp] theorem powerUp_cursorStart : (s.powerUp).cursorStart = 0x00 := rfl
@[simp] theorem powerUp_cursorEnd : (s.powerUp).cursorEnd = 0x00 := rfl
@[simp] theorem powerUp_screenCtrl : (s.powerUp).screenCtrl = 0x00 := rfl
@[simp] theorem powerUp_unkStatus : (s.powerUp).unkStatus = 0x00 := rfl
@[simp] theorem powerUp_bellCtrl : (s.powerUp).bellCtrl = 0x00 := rfl
@[simp] theorem powerUp_vectorLatch : (s.powerUp).vectorLatch = 0x00 := rfl
@[simp] theorem powerUp_irqOut : (s.powerUp).irqOut = false := rfl
@[simp] theorem powerUp_codes : (s.powerUp).codes = [] := rfl
@[simp] theorem powerUp_attrs : (s.powerUp).attrs = [] := rfl
@[simp] theorem powerUp_inbox : (s.powerUp).inbox = s.inbox := rfl
@[simp] theorem powerUp_outputs : (s.powerUp).outputs = [.irq false, .beep false] := rfl
@[simp] theorem powerUp_draws : (s.powerUp).draws = s.draws := rfl

/-! Storing a code. -/

@[simp] theorem storeCode_window1Base (c : Config) (a : Half) (d : Byte) : (s.storeCode c a d).window1Base = s.window1Base := rfl
@[simp] theorem storeCode_window1End (c : Config) (a : Half) (d : Byte) : (s.storeCode c a d).window1End = s.window1End := rfl
@[simp] theorem storeCode_window2Base (c : Config) (a : Half) (d : Byte) : (s.storeCode c a d).window2Base = s.window2Base := rfl
@[simp] theorem storeCode_cursorBase (c : Config) (a : Half) (d : Byte) : (s.storeCode c a d).cursorBase = s.cursorBase := rfl
@[simp] theorem storeCode_cursorStart (c : Config) (a : Half) (d : Byte) : (s.storeCode c a d).cursorStart = s.cursorStart := rfl
@[simp] theorem storeCode_cursorEnd (c : Config) (a : Half) (d : Byte) : (s.storeCode c a d).cursorEnd = s.cursorEnd := rfl
@[simp] theorem storeCode_screenCtrl (c : Config) (a : Half) (d : Byte) : (s.storeCode c a d).screenCtrl = s.screenCtrl := rfl
@[simp] theorem storeCode_unkStatus (c : Config) (a : Half) (d : Byte) : (s.storeCode c a d).unkStatus = s.unkStatus := rfl
@[simp] theorem storeCode_bellCtrl (c : Config) (a : Half) (d : Byte) : (s.storeCode c a d).bellCtrl = s.bellCtrl := rfl
@[simp] theorem storeCode_vectorLatch (c : Config) (a : Half) (d : Byte) : (s.storeCode c a d).vectorLatch = s.vectorLatch := rfl
@[simp] theorem storeCode_irqOut (c : Config) (a : Half) (d : Byte) : (s.storeCode c a d).irqOut = s.irqOut := rfl
@[simp] theorem storeCode_codes (c : Config) (a : Half) (d : Byte) : (s.storeCode c a d).codes = s.codes.write c.initCodes (c.idx a) d := rfl
@[simp] theorem storeCode_attrs (c : Config) (a : Half) (d : Byte) : (s.storeCode c a d).attrs = s.attrs := rfl
@[simp] theorem storeCode_inbox (c : Config) (a : Half) (d : Byte) : (s.storeCode c a d).inbox = s.inbox := rfl
@[simp] theorem storeCode_outputs (c : Config) (a : Half) (d : Byte) : (s.storeCode c a d).outputs = s.outputs := rfl
@[simp] theorem storeCode_draws (c : Config) (a : Half) (d : Byte) : (s.storeCode c a d).draws = s.draws := rfl

/-! Storing an attribute. -/

@[simp] theorem storeAttr_window1Base (c : Config) (a : Half) (d : Byte) : (s.storeAttr c a d).window1Base = s.window1Base := rfl
@[simp] theorem storeAttr_window1End (c : Config) (a : Half) (d : Byte) : (s.storeAttr c a d).window1End = s.window1End := rfl
@[simp] theorem storeAttr_window2Base (c : Config) (a : Half) (d : Byte) : (s.storeAttr c a d).window2Base = s.window2Base := rfl
@[simp] theorem storeAttr_cursorBase (c : Config) (a : Half) (d : Byte) : (s.storeAttr c a d).cursorBase = s.cursorBase := rfl
@[simp] theorem storeAttr_cursorStart (c : Config) (a : Half) (d : Byte) : (s.storeAttr c a d).cursorStart = s.cursorStart := rfl
@[simp] theorem storeAttr_cursorEnd (c : Config) (a : Half) (d : Byte) : (s.storeAttr c a d).cursorEnd = s.cursorEnd := rfl
@[simp] theorem storeAttr_screenCtrl (c : Config) (a : Half) (d : Byte) : (s.storeAttr c a d).screenCtrl = s.screenCtrl := rfl
@[simp] theorem storeAttr_unkStatus (c : Config) (a : Half) (d : Byte) : (s.storeAttr c a d).unkStatus = s.unkStatus := rfl
@[simp] theorem storeAttr_bellCtrl (c : Config) (a : Half) (d : Byte) : (s.storeAttr c a d).bellCtrl = s.bellCtrl := rfl
@[simp] theorem storeAttr_vectorLatch (c : Config) (a : Half) (d : Byte) : (s.storeAttr c a d).vectorLatch = s.vectorLatch := rfl
@[simp] theorem storeAttr_irqOut (c : Config) (a : Half) (d : Byte) : (s.storeAttr c a d).irqOut = s.irqOut := rfl
@[simp] theorem storeAttr_codes (c : Config) (a : Half) (d : Byte) : (s.storeAttr c a d).codes = s.codes := rfl
@[simp] theorem storeAttr_attrs (c : Config) (a : Half) (d : Byte) : (s.storeAttr c a d).attrs = s.attrs.write c.initAttrs (c.idx a) d := rfl
@[simp] theorem storeAttr_inbox (c : Config) (a : Half) (d : Byte) : (s.storeAttr c a d).inbox = s.inbox := rfl
@[simp] theorem storeAttr_outputs (c : Config) (a : Half) (d : Byte) : (s.storeAttr c a d).outputs = s.outputs := rfl
@[simp] theorem storeAttr_draws (c : Config) (a : Half) (d : Byte) : (s.storeAttr c a d).draws = s.draws := rfl

/-! Offering a stimulus. -/

@[simp] theorem offerStimulus_window1Base (w : Stimulus) : (s.offerStimulus w).window1Base = s.window1Base := rfl
@[simp] theorem offerStimulus_window1End (w : Stimulus) : (s.offerStimulus w).window1End = s.window1End := rfl
@[simp] theorem offerStimulus_window2Base (w : Stimulus) : (s.offerStimulus w).window2Base = s.window2Base := rfl
@[simp] theorem offerStimulus_cursorBase (w : Stimulus) : (s.offerStimulus w).cursorBase = s.cursorBase := rfl
@[simp] theorem offerStimulus_cursorStart (w : Stimulus) : (s.offerStimulus w).cursorStart = s.cursorStart := rfl
@[simp] theorem offerStimulus_cursorEnd (w : Stimulus) : (s.offerStimulus w).cursorEnd = s.cursorEnd := rfl
@[simp] theorem offerStimulus_screenCtrl (w : Stimulus) : (s.offerStimulus w).screenCtrl = s.screenCtrl := rfl
@[simp] theorem offerStimulus_unkStatus (w : Stimulus) : (s.offerStimulus w).unkStatus = s.unkStatus := rfl
@[simp] theorem offerStimulus_bellCtrl (w : Stimulus) : (s.offerStimulus w).bellCtrl = s.bellCtrl := rfl
@[simp] theorem offerStimulus_vectorLatch (w : Stimulus) : (s.offerStimulus w).vectorLatch = s.vectorLatch := rfl
@[simp] theorem offerStimulus_irqOut (w : Stimulus) : (s.offerStimulus w).irqOut = s.irqOut := rfl
@[simp] theorem offerStimulus_codes (w : Stimulus) : (s.offerStimulus w).codes = s.codes := rfl
@[simp] theorem offerStimulus_attrs (w : Stimulus) : (s.offerStimulus w).attrs = s.attrs := rfl
@[simp] theorem offerStimulus_inbox (w : Stimulus) : (s.offerStimulus w).inbox = w :: s.inbox := rfl
@[simp] theorem offerStimulus_outputs (w : Stimulus) : (s.offerStimulus w).outputs = s.outputs := rfl
@[simp] theorem offerStimulus_draws (w : Stimulus) : (s.offerStimulus w).draws = s.draws := rfl

end Sys2Proof.Machine
end

