-- ==== Sys2Proof/Laws/Ops.lean ====
section
/-! SUPPORT. What each shared operation can do, said once, and what a step can be. -/

namespace Sys2Proof.Machine

/-- A high-port write places its byte in bits 15:8 and keeps bits 7:0. -/
theorem setHighByte_eq (v : Half) (d : Byte) : setHighByte v d = d ++ v.extractLsb' 0 8 := by
  apply BitVec.eq_of_getLsbD_eq
  intro i hi
  have e : (d ++ v.extractLsb' 0 8 : BitVec 16).getLsbD i = (d ++ v.extractLsb' 0 8).getLsbD i := rfl
  rw [e, BitVec.getLsbD_append]
  unfold setHighByte
  interval_cases i <;> simp

/-- A low-port write places its byte in bits 7:0 and keeps bits 15:8. -/
theorem setLowByte_eq (v : Half) (d : Byte) : setLowByte v d = v.extractLsb' 8 8 ++ d := by
  apply BitVec.eq_of_getLsbD_eq
  intro i hi
  have e : (v.extractLsb' 8 8 ++ d : BitVec 16).getLsbD i = (v.extractLsb' 8 8 ++ d).getLsbD i := rfl
  rw [e, BitVec.getLsbD_append]
  unfold setLowByte
  interval_cases i <;> simp

/-- A code store is read back at every address with the same index, and no other address's code changes. -/
theorem loadCode_storeCode (c : Config) (s : State) (a b : Half) (d : Byte) :
    (s.storeCode c a d).loadCode c b = if c.idx b = c.idx a then d else s.loadCode c b :=
  Memory.read_write _ _ _ _ _

/-- An attribute store is read back at every address with the same index, and no other address's attribute changes. -/
theorem loadAttr_storeAttr (c : Config) (s : State) (a b : Half) (d : Byte) :
    (s.storeAttr c a d).loadAttr c b = if c.idx b = c.idx a then d else s.loadAttr c b :=
  Memory.read_write _ _ _ _ _

@[simp] theorem loadAttr_storeCode (c : Config) (s : State) (a b : Half) (d : Byte) :
    (s.storeCode c a d).loadAttr c b = s.loadAttr c b := rfl

@[simp] theorem loadCode_storeAttr (c : Config) (s : State) (a b : Half) (d : Byte) :
    (s.storeAttr c a d).loadCode c b = s.loadCode c b := rfl

/-- What a step can be: idle, one decoded operation run, or a reserved word refused. -/
theorem step_cases (s : State) :
    (s.inbox = [] ∧ step s = .next s) ∨
    (∃ w rest i, s.inbox = w :: rest ∧ decode w = .ok i ∧ step s = exec i { s with inbox := rest }) ∨
    (∃ w rest why, s.inbox = w :: rest ∧ decode w = .error why ∧ step s = .refused (.reservedStimulus why w.word)) := by
  unfold step State.takeStimulus
  cases h : s.inbox with
  | nil => exact .inl ⟨rfl, rfl⟩
  | cons w rest =>
    cases hd : decode w with
    | ok i => exact .inr (.inl ⟨w, rest, i, rfl, hd, by simp [hd]⟩)
    | error why => exact .inr (.inr ⟨w, rest, why, rfl, hd, by simp [hd]⟩)

/-- A run goes on from the state its first step gives. -/
theorem core_run_of_next {k : Nat} {s t : State} (h : step s = .next t) : core.run (k + 1) s = core.run k t := by
  have e := Host.Core.run.eq_2 core s k
  have h' : core.step s = .next t := h
  rw [h'] at e
  exact e

end Sys2Proof.Machine
end

