-- ==== Sys2Proof/Laws/PerInstr.lean ====
section
/-! SUPPORT. What is stated per instruction: its word is never a reserved one. -/

namespace Sys2Proof.Laws.EncodesUnreserved

/-- The instruction's word has Z = 0 and the code of the instruction's own kind, so 30_encoding.md R85 does not reserve it. -/
def Statement (i : Instr) : Prop :=
  (encode i).zBits = 0 ∧ Kind.ofBits (encode i).kindBits = some i.fields.1

theorem of_fields (i : Instr) : Statement i := by
  unfold Statement encode Stimulus.zBits Stimulus.kindBits
  exact ⟨stimulusWord_z _ _ _, by rw [stimulusWord_kind, Kind.ofBits_bits]⟩

theorem wrW1bHi (d : Byte) : Statement (.wrW1bHi d) := of_fields _
theorem wrW1bLo (d : Byte) : Statement (.wrW1bLo d) := of_fields _
theorem wrW1eHi (d : Byte) : Statement (.wrW1eHi d) := of_fields _
theorem wrW1eLo (d : Byte) : Statement (.wrW1eLo d) := of_fields _
theorem wrW2bHi (d : Byte) : Statement (.wrW2bHi d) := of_fields _
theorem wrW2bLo (d : Byte) : Statement (.wrW2bLo d) := of_fields _
theorem wrCstart (d : Byte) : Statement (.wrCstart d) := of_fields _
theorem wrCend (d : Byte) : Statement (.wrCend d) := of_fields _
theorem wrCbHi (d : Byte) : Statement (.wrCbHi d) := of_fields _
theorem wrCbLo (d : Byte) : Statement (.wrCbLo d) := of_fields _
theorem wrSctrl (d : Byte) : Statement (.wrSctrl d) := of_fields _
theorem wrUnkStatus (d : Byte) : Statement (.wrUnkStatus d) := of_fields _
theorem wrBell (d : Byte) : Statement (.wrBell d) := of_fields _
theorem wrVector (d : Byte) : Statement (.wrVector d) := of_fields _
theorem wrUnmapped (a : Half) (d : Byte) : Statement (.wrUnmapped a d) := of_fields _
theorem rdW1bHi : Statement .rdW1bHi := of_fields _
theorem rdW1bLo : Statement .rdW1bLo := of_fields _
theorem rdW1eHi : Statement .rdW1eHi := of_fields _
theorem rdW1eLo : Statement .rdW1eLo := of_fields _
theorem rdW2bHi : Statement .rdW2bHi := of_fields _
theorem rdW2bLo : Statement .rdW2bLo := of_fields _
theorem rdCstart : Statement .rdCstart := of_fields _
theorem rdCend : Statement .rdCend := of_fields _
theorem rdCbHi : Statement .rdCbHi := of_fields _
theorem rdCbLo : Statement .rdCbLo := of_fields _
theorem rdSctrl : Statement .rdSctrl := of_fields _
theorem rdBell : Statement .rdBell := of_fields _
theorem rdUnkStatus : Statement .rdUnkStatus := of_fields _
theorem rdVector : Statement .rdVector := of_fields _
theorem rdUnmapped (a : Half) : Statement (.rdUnmapped a) := of_fields _
theorem vramCodeWr (a : Half) (d : Byte) : Statement (.vramCodeWr a d) := of_fields _
theorem vramAttrWr (a : Half) (d : Byte) : Statement (.vramAttrWr a d) := of_fields _
theorem vramCodeRd (a : Half) : Statement (.vramCodeRd a) := of_fields _
theorem vramAttrRd (a : Half) : Statement (.vramAttrRd a) := of_fields _
theorem vblankEdge (level : Bool) : Statement (.vblankEdge level) := of_fields _
theorem kbdIrq : Statement .kbdIrq := of_fields _
theorem irqAck : Statement .irqAck := of_fields _
theorem reset : Statement .reset := of_fields _
theorem renderFrame (f : Nat) : Statement (.renderFrame f) := of_fields _
theorem powerOn : Statement .powerOn := of_fields _

end Sys2Proof.Laws.EncodesUnreserved
end

