-- ==== Sys2Proof/Laws/Renderer.lean ====
section
/-! SUPPORT. The shapes of the renderer's lists, and the shading of a row cell by cell. -/

namespace Sys2Proof.Machine

@[simp] theorem length_expandByte (d : Byte) : (expandByte d).length = 6 := rfl

@[simp] theorem length_shadeCells (line : Byte) (cells : List Cell) : (shadeCells line cells).length = cells.length := by
  induction cells generalizing line with
  | nil => rfl
  | cons cell rest ih => simp [shadeCells, ih]

@[simp] theorem length_shadedRow (c : Config) (s : State) (y : Nat) : (shadedRow c s y).length = 80 := by
  simp [shadedRow]

@[simp] theorem length_pixelRow (c : Config) (s : State) (f y : Nat) (cells : List (Cell × Byte)) (i : Nat) :
    (pixelRow c s f y cells i).length = 6 * cells.length := by
  simp [pixelRow, Nat.mul_comm]

@[simp] theorem length_cellRow (c : Config) (s : State) (f y : Nat) : (cellRow c s f y).length = 9 := by
  simp [cellRow]

/-- The entry at an index of a list built from equal-length pieces. -/
theorem getElem?_flatMap_blocks {α β : Type} (g : α → List β) (n : Nat) (hg : ∀ a, (g a).length = n)
    (l : List α) (k j : Nat) (hj : j < n) : (l.flatMap g)[n * k + j]? = (l[k]?).bind (fun a => (g a)[j]?) := by
  induction l generalizing k with
  | nil => simp
  | cons a rest ih =>
    cases k with
    | zero => simp [List.flatMap_cons, List.getElem?_append_left (show j < (g a).length by rw [hg]; exact hj)]
    | succ k =>
      have hle : (g a).length ≤ n * (k + 1) + j := by rw [hg, Nat.mul_succ]; omega
      have he : n * (k + 1) + j - (g a).length = n * k + j := by rw [hg, Nat.mul_succ]; omega
      rw [List.flatMap_cons, List.getElem?_append_right hle, he, ih]
      simp

/-- The line attribute a row's prefix leaves. -/
def lineAttrOf (line : Byte) (cells : List Cell) : Byte :=
  cells.foldl lineAttrAfter line

/-- Cell `x` of a shaded row carries its own attribute and the line attribute left by the cells up to and with it. -/
theorem getElem?_shadeCells (line : Byte) (cells : List Cell) (x : Nat) :
    (shadeCells line cells)[x]? = (cells[x]?).map (fun cell => (cell, cell.attr ||| lineAttrOf line (cells.take (x + 1)))) := by
  induction cells generalizing line x with
  | nil => simp [shadeCells]
  | cons cell rest ih =>
    cases x with
    | zero => simp [shadeCells, lineAttrOf]
    | succ x => simp [shadeCells, ih, lineAttrOf]

end Sys2Proof.Machine
end

