-- ==== Sys2Proof/Tests/Slice0.lean ====
section
/-! SUPPORT. Tests of one step or one operation, their expected results from 95_test_vectors.md (V<n>, S<n>, P<n>) or
worked by hand from the cited rule, and for each statement with hypotheses a state and operands that meet them
(`test_meets_…`). -/

namespace Sys2Proof.Tests

open Sys2Proof.Machine

/-! The test configuration TC of 95_test_vectors.md section 0. -/

/-- The test glyph store TG. -/
def tg (n : Nat) : Byte :=
  if n / 16 = 0x41 then [0x20, 0x50, 0x88, 0x88, 0xF8, 0x88, 0x88].getD (n % 16) 0x00
  else if n % 16 < 9 then
    if n / 16 = 0x7F ∨ n / 16 = 0xC0 ∨ n / 16 = 0xE8 then 0xFC else if n / 16 = 0x03 then 0x03 else 0x00
  else 0x00

/-- The configuration TC. -/
def tc : Config where
  variant := .rom8k
  glyph := tg
  vramLast := 4095
  vramBase := 0x6000
  statusBase := 0x6F00
  initCodes := fun _ => 0x00
  initAttrs := fun _ => 0x00
  commitTrace := false

/-- TC with the variant ROM16K and the test glyph store TG16. -/
def tc16 : Config :=
  { tc with variant := .rom16k, glyph := fun n => if n < 0x2000 then 0xFF else tg (n - 0x2000) }

/-- A view of the next state, none at a stop. -/
def seen {α : Type} (o : Host.Outcome State Fault Refusal) (view : State → α) : Option α :=
  match o with
  | .next t => some (view t)
  | .fault _ => none
  | .refused _ => none

/-- The state both windows of which start at 0x6000 (section 2.6, 2.7). -/
def windows : State :=
  { State.reset with window1Base := 0x6000, window2Base := 0x6000 }

/-! Well-formedness: an unmapped row with a listed offset is no stimulus (30_encoding.md R84). -/

theorem test_wf_refuses_unmapped_writes_to_listed_offsets :
    ∀ p ∈ BusPort.all, (Instr.wrUnmapped p.offset 0xFF).wf = false := by decide

theorem test_wf_refuses_unmapped_reads_of_listed_offsets :
    ∀ p ∈ BusPort.all, (Instr.rdUnmapped p.offset).wf = false := by decide

theorem test_wf_accepts_unlisted_offsets :
    (Instr.wrUnmapped 0x000C 0xFF).wf = true ∧ (Instr.rdUnmapped 0x0000).wf = true ∧ (Instr.rdUnmapped 0xFFF6).wf = true ∧
    (Instr.wrUnmapped 0x0106 0x00).wf = true := by decide

/-! Decoding: words written out as K, Z, A, D (30_encoding.md R80, R81; the offsets of 20_memory.md R58). -/

theorem test_decode_two_phase_writes :
    decode ⟨0b0001_0000_0000000000000110_10101011, 0⟩ = .ok (.wrW1bHi 0xAB) ∧
    decode ⟨0b0001_0000_0000000000000111_00000001, 0⟩ = .ok (.wrW1bLo 0x01) ∧
    decode ⟨0b0001_0000_0000000000001000_10000000, 0⟩ = .ok (.wrW1eHi 0x80) ∧
    decode ⟨0b0001_0000_0000000000001001_11111111, 0⟩ = .ok (.wrW1eLo 0xFF) ∧
    decode ⟨0b0001_0000_0000000000001010_01100001, 0⟩ = .ok (.wrW2bHi 0x61) ∧
    decode ⟨0b0001_0000_0000000000001011_01000000, 0⟩ = .ok (.wrW2bLo 0x40) ∧
    decode ⟨0b0001_0000_0000000000001111_01100000, 0⟩ = .ok (.wrCbHi 0x60) ∧
    decode ⟨0b0001_0000_0000000000010000_00000101, 0⟩ = .ok (.wrCbLo 0x05) := by decide

theorem test_decode_single_byte_writes :
    decode ⟨0b0001_0000_0000000000001101_11100110, 0⟩ = .ok (.wrCstart 0xE6) ∧
    decode ⟨0b0001_0000_0000000000001110_11111001, 0⟩ = .ok (.wrCend 0xF9) ∧
    decode ⟨0b0001_0000_0000000000100001_11001111, 0⟩ = .ok (.wrSctrl 0xCF) ∧
    decode ⟨0b0001_0000_0000000001000010_01011010, 0⟩ = .ok (.wrUnkStatus 0x5A) ∧
    decode ⟨0b0001_0000_0000000001100000_00000100, 0⟩ = .ok (.wrBell 0x04) ∧
    decode ⟨0b0001_0000_1111111111110111_00000000, 0⟩ = .ok (.wrVector 0x00) ∧
    decode ⟨0b0001_0000_0001001000110100_01010101, 0⟩ = .ok (.wrUnmapped 0x1234 0x55) := by decide

theorem test_decode_reads_of_write_only_offsets :
    decode ⟨0b0000_0000_0000000000000110_00000000, 0⟩ = .ok .rdW1bHi ∧
    decode ⟨0b0000_0000_0000000000000111_00000000, 0⟩ = .ok .rdW1bLo ∧
    decode ⟨0b0000_0000_0000000000001000_00000000, 0⟩ = .ok .rdW1eHi ∧
    decode ⟨0b0000_0000_0000000000001001_00000000, 0⟩ = .ok .rdW1eLo ∧
    decode ⟨0b0000_0000_0000000000001010_00000000, 0⟩ = .ok .rdW2bHi ∧
    decode ⟨0b0000_0000_0000000000001011_00000000, 0⟩ = .ok .rdW2bLo ∧
    decode ⟨0b0000_0000_0000000000001101_00000000, 0⟩ = .ok .rdCstart ∧
    decode ⟨0b0000_0000_0000000000001110_00000000, 0⟩ = .ok .rdCend ∧
    decode ⟨0b0000_0000_0000000000001111_00000000, 0⟩ = .ok .rdCbHi ∧
    decode ⟨0b0000_0000_0000000000010000_00000000, 0⟩ = .ok .rdCbLo ∧
    decode ⟨0b0000_0000_0000000000100001_00000000, 0⟩ = .ok .rdSctrl ∧
    decode ⟨0b0000_0000_0000000001100000_00000000, 0⟩ = .ok .rdBell := by decide

theorem test_decode_other_reads :
    decode ⟨0b0000_0000_0000000001000010_00000000, 0⟩ = .ok .rdUnkStatus ∧
    decode ⟨0b0000_0000_1111111111110111_00000000, 0⟩ = .ok .rdVector ∧
    decode ⟨0b0000_0000_0000000000000000_00000000, 0⟩ = .ok (.rdUnmapped 0x0000) ∧
    decode ⟨0b0000_0000_1000000000000110_11111111, 0⟩ = .ok (.rdUnmapped 0x8006) := by decide

theorem test_decode_video_memory :
    decode ⟨0b0010_0000_0110000000000101_01000001, 0⟩ = .ok (.vramCodeWr 0x6005 0x41) ∧
    decode ⟨0b0011_0000_0110000000000101_00010000, 0⟩ = .ok (.vramAttrWr 0x6005 0x10) ∧
    decode ⟨0b0100_0000_0111000000000101_00000000, 0⟩ = .ok (.vramCodeRd 0x7005) ∧
    decode ⟨0b0101_0000_0101111111111111_00000000, 0⟩ = .ok (.vramAttrRd 0x5FFF) := by decide

/-- V109 and V110 too: of VBLANK_EDGE's data byte only D[0] is read. -/
theorem test_decode_events :
    decode ⟨0b0110_0000_0000000000000000_11111111, 0⟩ = .ok (.vblankEdge true) ∧
    decode ⟨0b0110_0000_0000000000000000_11111110, 0⟩ = .ok (.vblankEdge false) ∧
    decode ⟨0b0111_0000_0000000000000000_00000000, 0⟩ = .ok .kbdIrq ∧
    decode ⟨0b1000_0000_0000000000000000_00000000, 0⟩ = .ok .irqAck ∧
    decode ⟨0b1001_0000_0000000000000000_00000000, 0⟩ = .ok .reset ∧
    decode ⟨0b1010_0000_0000000000000000_00000000, 64⟩ = .ok (.renderFrame 64) ∧
    decode ⟨0b1011_0000_0000000000000000_00000000, 0⟩ = .ok .powerOn := by decide

/-- V23 and V24, and the other ends of the two reserved ranges (R85). -/
theorem test_decode_rejects_reserved_words :
    decode ⟨0x01000600, 0⟩ = .error .reservedZ ∧ decode ⟨0xBF000000, 0⟩ = .error .reservedZ ∧
    decode ⟨0xC0000000, 0⟩ = .error .reservedKind ∧ decode ⟨0xF0FFFFFF, 0⟩ = .error .reservedKind := by decide

/-- The table's own words, through the host's view of the decoder. -/
theorem test_decode_table_words : ∀ r ∈ opcodeTable, (decodeTableWord 32 r.pattern.toNat).map Instr.mnemonic = some r.mnemonic := by
  decide

theorem test_encode_words :
    encode (.wrW1bHi 0xAB) = ⟨0x100006AB, 0⟩ ∧ encode (.rdUnmapped 0x1234) = ⟨0x00123400, 0⟩ ∧
    encode (.vblankEdge true) = ⟨0x60000001, 0⟩ ∧ encode (.renderFrame 32) = ⟨0xA0000000, 32⟩ := by decide

/-! The step. -/

/-- V23: a reserved word is refused, with its reason. -/
theorem test_step_refuses_reserved_word :
    step (State.reset.withFetchWord 32 0x01000600) = .refused (.reservedStimulus .reservedZ 0x01000600) := by rfl

/-- P3 step 3, from the state after reset: the word placed is the next one run, and it is taken off the queue. -/
theorem test_step_runs_the_placed_word :
    seen (step (State.reset.withFetchWord 32 0x60000001)) (fun t => (t.vectorLatch, t.irqOut, t.inbox)) =
      some (0x10, true, []) := by decide

/-! The register bank (section 2.1). -/

theorem test_V1_to_V3 :
    seen (exec (.wrW1bHi 0xAB) { State.reset with window1Base := 0x1234 }) (·.window1Base) = some 0xAB34 ∧
    seen (exec (.wrW1bLo 0x00) { State.reset with window1Base := 0xAB34 }) (·.window1Base) = some 0xAB00 ∧
    seen (exec (.wrW1bHi 0x00) { State.reset with window1Base := 0x00FF }) (·.window1Base) = some 0x00FF := by decide

/-- V4, and S2's second row's first write: 0x0000 with high byte 0x67. -/
theorem test_V4_and_window_end_high :
    seen (exec (.wrW1eLo 0x00) { State.reset with window1End := 0xFFFF }) (·.window1End) = some 0xFF00 ∧
    seen (exec (.wrW1eHi 0x67) State.reset) (·.window1End) = some 0x6700 := by decide

theorem test_V5_V6 :
    seen (exec (.wrW2bHi 0xFF) { State.reset with window2Base := 0x6000 }) (·.window2Base) = some 0xFF00 ∧
    seen (exec (.wrW2bLo 0xFF) { State.reset with window2Base := 0xFF00 }) (·.window2Base) = some 0xFFFF := by decide

theorem test_V9_V10 :
    seen (exec (.wrCbHi 0x60) { State.reset with cursorBase := 0xABCD }) (·.cursorBase) = some 0x60CD ∧
    seen (exec (.wrCbLo 0x00) { State.reset with cursorBase := 0x60CD }) (·.cursorBase) = some 0x6000 := by decide

theorem test_V7_V8_V11_V12 :
    seen (exec (.wrCstart 0xE6) State.reset) (fun t => (t.cursorStart, t.cursorVisible, t.cursorFirst)) = some (0xE6, true, 6) ∧
    seen (exec (.wrCend 0xF9) State.reset) (fun t => (t.cursorEnd, t.cursorStop)) = some (0xF9, 9) ∧
    seen (exec (.wrSctrl 0xCF) State.reset) (fun t => (t.screenCtrl, t.invert, t.steady)) = some (0xCF, false, false) ∧
    seen (exec (.wrUnkStatus 0x5A) State.reset) (·.unkStatus) = some 0x5A := by decide

theorem test_V13_V14 :
    seen (exec .rdUnkStatus { State.reset with unkStatus := 0x5A }) (fun t => (t.outputs, t.unkStatus)) =
      some ([.data 0x5E], 0x5A) ∧
    seen (exec .rdUnkStatus { State.reset with unkStatus := 0x04 }) (·.outputs) = some [.data 0x04] := by decide

theorem test_V15_V16_V17 :
    seen (exec (.wrBell 0x04) State.reset) (fun t => (t.bellCtrl, t.outputs, t.beeper)) = some (0x04, [.beep true], true) ∧
    seen (exec (.wrBell 0xFB) { State.reset with bellCtrl := 0x04 }) (fun t => (t.bellCtrl, t.outputs, t.beeper)) =
      some (0xFB, [.beep false], false) ∧
    seen (exec (.wrBell 0x0C) { State.reset with bellCtrl := 0xFB }) (fun t => (t.bellCtrl, t.outputs)) =
      some (0x0C, [.beep true]) := by decide

/-- V18, V19, V22: a draw is counted and no register changes; the byte itself is free. -/
theorem test_V18_V19_V22 :
    seen (exec .rdSctrl { State.reset with screenCtrl := 0x30 }) (fun t => (t.draws, t.screenCtrl)) = some (1, 0x30) ∧
    seen (exec .rdW1bLo { State.reset with window1Base := 0x1234 }) (fun t => (t.draws, t.window1Base)) = some (1, 0x1234) ∧
    seen (exec (.rdUnmapped 0x0000) State.reset) (·.draws) = some 1 := by decide

theorem test_V20_V21 :
    exec (.wrUnmapped 0x000C 0xFF) State.reset = .next State.reset ∧
    exec (.wrUnmapped 0x1234 0x55) State.reset = .next State.reset := ⟨rfl, rfl⟩

/-! Video memory (section 2.2). -/

theorem test_index_values :
    tc.idx 0x6000 = 0x000 ∧ tc.idx 0x6FFF = 0xFFF ∧ tc.idx 0x7000 = 0x000 ∧ tc.idx 0x0000 = 0x000 ∧
    tc.idx 0x6F00 = 0xF00 ∧ tc.idx 0x6F9F = 0xF9F := by decide

/-- V25 and V26: one array each. -/
theorem test_V25_V26 :
    ((State.reset.storeCode tc 0x6005 0x41).codes, (State.reset.storeCode tc 0x6005 0x41).attrs) = ([(5, 0x41)], []) ∧
    ((State.reset.storeAttr tc 0x6005 0x10).codes, (State.reset.storeAttr tc 0x6005 0x10).attrs) = ([], [(5, 0x10)]) := by decide

/-- V27, V28 and V29: addresses with one index share an entry, and an entry never written reads as VRAM_INIT. -/
theorem test_V27_V28_V29 :
    (State.reset.storeCode tc 0x6005 0x41).loadCode tc 0x7005 = 0x41 ∧
    (State.reset.storeAttr tc 0x6FFF 0x77).loadAttr tc 0x5FFF = 0x77 ∧ State.reset.loadCode tc 0x6010 = 0x00 := by decide

/-- Writing VRAM_INIT's own value lists nothing, and entries stay in the order of their indexes (log 8). -/
theorem test_memory_keeps_its_form :
    ((State.reset.storeCode tc 0x6005 0x41).storeCode tc 0x6005 0x00).codes = [] ∧
    ((State.reset.storeCode tc 0x6005 0x41).storeCode tc 0x6001 0x42).codes = [(1, 0x42), (5, 0x41)] ∧
    Memory.wf tc.vramSize tc.initCodes [(1, 0x42), (5, 0x41)] = true ∧
    Memory.wf tc.vramSize tc.initCodes [(5, 0x41), (1, 0x42)] = false ∧
    Memory.wf tc.vramSize tc.initCodes [(4096, 0x41)] = false ∧
    Memory.wf tc.vramSize tc.initCodes [(1, 0x00)] = false := by decide

/-! The split and the source addresses (section 2.3). -/

/-- The split and the addresses of some cells, under TC. -/
def rowsOf (w1 w2 : Half) (cells : List (Nat × Nat)) : Int × List Half :=
  let s := { State.reset with window1Base := w1, window2Base := w2 }
  (s.split, cells.map (fun p => sourceAddress tc s p.1 p.2))

theorem test_V30_to_V34 :
    rowsOf 0x6000 0x6000 [(0, 0), (23, 79), (24, 0), (25, 79)] = (24, [0x6000, 0x677F, 0x6F00, 0x6F9F]) ∧
    rowsOf 0x6000 0x6140 [(0, 0), (19, 79), (20, 0), (23, 79)] = (20, [0x6140, 0x677F, 0x6000, 0x613F]) ∧
    rowsOf 0x6000 0x6064 [(0, 0), (22, 79), (23, 0)] = (23, [0x6064, 0x6793, 0x6000]) ∧
    rowsOf 0x6000 0x5FB0 [(0, 0), (23, 0)] = (25, [0x5FB0, 0x66E0]) ∧
    rowsOf 0x6000 0x5FD8 [(0, 0)] = (24, [0x5FD8]) := by decide

theorem test_V35_to_V38 :
    rowsOf 0x6000 0x6960 [(0, 0), (23, 79)] = (-6, [0x61E0, 0x695F]) ∧
    rowsOf 0xFFC0 0xFFC0 [(0, 63), (0, 64)] = (24, [0xFFFF, 0x0000]) ∧
    rowsOf 0x0000 0xFFB0 [(0, 0), (23, 79)] = (-794, [0xF820, 0xFF9F]) ∧
    rowsOf 0x0000 0x0000 [(0, 0)] = (24, [0x0000]) := by decide

/-! The glyph store (section 2.4) and the pipeline (section 2.5). -/

theorem test_V40_to_V45 :
    (glyphIndex .rom8k 0x41 4, glyphByte tc 0x41 4) = (0x0414, 0xF8) ∧
    (glyphIndex .rom16k 0x41 4, glyphByte tc16 0x41 4) = (0x2414, 0xF8) ∧
    (glyphIndex .rom8k 0xFF 8, glyphByte tc 0xFF 8) = (0x0FF8, 0x00) ∧
    (glyphIndex .rom16k 0xFF 8, glyphByte tc16 0xFF 8) = (0x2FF8, 0x00) ∧
    (glyphIndex .rom16k 0x00 0, glyphByte tc16 0x00 0) = (0x2000, 0x00) ∧
    (glyphIndex .rom8k 0x00 0, glyphByte tc 0x00 0) = (0x0000, 0x00) := by decide

/-- The data byte of one scanline of a text cell that is not under the cursor; the line attribute is the one before
the cell. -/
def datum (code attr line : Byte) (f : Nat) (sctrl : Byte) (i : Nat) : List Byte :=
  (shadeCells line [⟨0x6000, code, attr⟩]).map
    (fun e => scanlineByte tc { State.reset with screenCtrl := sctrl } f 0 e.1 e.2 i)

theorem test_V50_to_V59 :
    datum 0x41 0x00 0x00 0 0x00 4 = [0xF8] ∧ datum 0x41 0x08 0x00 0 0x00 4 = [0x00] ∧
    datum 0x41 0x10 0x00 0 0x00 4 = [0x07] ∧ datum 0x41 0x10 0x00 0 0x00 7 = [0xFF] ∧
    datum 0x41 0x18 0x00 0 0x00 4 = [0xFF] ∧ datum 0x41 0x20 0x00 0 0x00 7 = [0x00] ∧
    datum 0x41 0x40 0x00 0x1F 0x00 4 = [0xF8] ∧ datum 0x41 0x40 0x00 0x20 0x00 4 = [0x00] ∧
    datum 0x41 0x50 0x00 0x20 0x00 4 = [0x00] ∧ datum 0x41 0x40 0x00 0x60 0x00 4 = [0x00] := by decide

theorem test_V60_to_V70 :
    datum 0x41 0x00 0x00 0 0x20 4 = [0x07] ∧ datum 0xC0 0x00 0x00 0 0x20 0 = [0xFF] ∧
    datum 0x41 0x08 0x00 0 0x20 4 = [0xFF] ∧ datum 0x41 0x00 0x10 0 0x00 0 = [0xDF] ∧
    datum 0x41 0x10 0x10 0 0x00 0 = [0xDF] ∧ datum 0xC0 0x10 0x00 0 0x00 4 = [0x00] ∧
    datum 0xE8 0x18 0x00 0x20 0x00 4 = [0x00] ∧ datum 0x03 0x00 0x00 0 0x00 0 = [0x03] ∧
    datum 0x41 0x87 0x00 0 0x00 4 = [0xF8] ∧ datum 0x41 0x00 0x00 0 0xDF 4 = [0xF8] ∧
    datum 0x7F 0x00 0x00 0 0x00 0 = [0xFC] := by decide

/-- Section 0's pixel strings of 0x88, 0x07 and 0x03: bit 7 first, bits 1 and 0 not shown. -/
theorem test_pixels_of_a_byte :
    expandByte 0x88 = [true, false, false, false, true, false] ∧ expandByte 0x07 = [false, false, false, false, false, true] ∧
    expandByte 0x03 = [false, false, false, false, false, false] := by decide

/-- Section 2.6: the first seven cells of a row, their effective attributes and their data on scanline 0. -/
theorem test_line_attribute_within_a_row :
    (shadeCells 0x00 [⟨0x6000, 0x41, 0x00⟩, ⟨0x6001, 0xC0, 0x10⟩, ⟨0x6002, 0x41, 0x00⟩, ⟨0x6003, 0x41, 0x08⟩,
        ⟨0x6004, 0xE8, 0x00⟩, ⟨0x6005, 0x41, 0x00⟩, ⟨0x6006, 0x41, 0x40⟩]).map
      (fun e => (e.2, scanlineByte tc windows 0 0 e.1 e.2 0, scanlineByte tc windows 0x20 0 e.1 e.2 0)) =
    [(0x00, 0x20, 0x20), (0x10, 0x00, 0x00), (0x10, 0xDF, 0xDF), (0x18, 0xFF, 0xFF), (0x00, 0x00, 0x00),
     (0x00, 0x20, 0x20), (0x40, 0x20, 0x00)] := by decide

/-! The cursor (section 2.7). -/

/-- Cell (0, 0)'s nine data bytes, with code 0x00 and attribute 0x00 in video memory. -/
def cursorCell (s : State) (f : Nat) : List Byte :=
  (List.range 9).map (fun i => scanlineByte tc s f 0 (fetchCell tc s 0 0) 0x00 i)

/-- The cursor registers of section 2.7's rows. -/
def withCursor (start stop sctrl : Byte) : State :=
  { windows with cursorStart := start, cursorEnd := stop, screenCtrl := sctrl, cursorBase := 0x6000 }

/-- A cell lit on scanlines 6, 7 and 8 only. -/
def litBelow : List Byte := [0x00, 0x00, 0x00, 0x00, 0x00, 0x00, 0xFF, 0xFF, 0xFF]

theorem test_V80_to_V84 :
    cursorCell (withCursor 0x26 0x29 0x10) 0x20 = litBelow ∧ cursorCell (withCursor 0x26 0x29 0x00) 0x00 = litBelow ∧
    cursorCell (withCursor 0x26 0x29 0x00) 0x1F = litBelow ∧
    cursorCell (withCursor 0x26 0x29 0x00) 0x20 = List.replicate 9 0x00 ∧
    cursorCell (withCursor 0x26 0x29 0x00) 0x40 = litBelow := by decide

theorem test_V85_to_V89 :
    cursorCell (withCursor 0x06 0x29 0x10) 0 = List.replicate 9 0x00 ∧
    cursorCell (withCursor 0x26 0x26 0x10) 0 = List.replicate 9 0x00 ∧
    cursorCell (withCursor 0x26 0x23 0x10) 0 = List.replicate 9 0x00 ∧
    cursorCell (withCursor 0x20 0x2F 0x10) 0 = List.replicate 9 0xFF ∧
    cursorCell (withCursor 0x29 0x2F 0x10) 0 = List.replicate 9 0x00 := by decide

theorem test_V90_to_V94 :
    cursorCell (withCursor 0xE6 0xF9 0xD0) 0 = litBelow ∧
    cursorCell (withCursor 0x26 0x29 0x30) 0 = [0xFF, 0xFF, 0xFF, 0xFF, 0xFF, 0xFF, 0x00, 0x00, 0x00] ∧
    cursorCell ((withCursor 0x26 0x29 0x10).storeCode tc 0x6000 0xC0) 0 = litBelow ∧
    cursorCell ((withCursor 0x20 0x29 0x10).storeCode tc 0x6000 0x41) 0 = List.replicate 9 0xFF ∧
    scanlineByte tc (withCursor 0x26 0x29 0x10) 0 0 ⟨0x6000, 0x00, 0x08⟩ 0x08 6 = 0xFF := by decide

/-- V95: a status cell at the cursor's address; V96: equal indexes, unlike addresses; V97: row 0 from window 1. -/
theorem test_V95_V96_V97 :
    scanlineByte tc { withCursor 0x26 0x29 0x10 with cursorBase := 0x6F00 } 0 24 ⟨0x6F00, 0x00, 0x00⟩ 0x00 6 = 0x00 ∧
    cursorCell { withCursor 0x26 0x29 0x10 with cursorBase := 0x7000 } 0 = List.replicate 9 0x00 ∧
    cursorCell { withCursor 0x26 0x29 0x10 with window2Base := 0x6780 } 0 = litBelow := by decide

/-! The vector latch (section 2.8), reset and power-on (section 2.9). -/

theorem test_V100_V101 :
    seen (exec (.vblankEdge true) State.reset) (fun t => (t.vectorLatch, t.irqOut)) = some (0x10, true) ∧
    seen (exec (.vblankEdge false) State.reset) (fun t => (t.vectorLatch, t.irqOut)) = some (0x00, false) := by decide

/-- V103's second stimulus, and P3 step 5. -/
theorem test_V103_later_cause_wins :
    seen (exec (.vblankEdge true) { State.reset with vectorLatch := 0x14, irqOut := true }) (·.vectorLatch) = some 0x10 ∧
    seen (exec .kbdIrq { State.reset with vectorLatch := 0x10, irqOut := true }) (·.vectorLatch) = some 0x14 := by decide

theorem test_V104_V105_V106 :
    seen (exec .irqAck { State.reset with vectorLatch := 0x10, irqOut := true }) (fun t => (t.vectorLatch, t.irqOut)) =
      some (0x10, false) ∧
    seen (exec .rdVector { State.reset with vectorLatch := 0x14, irqOut := true })
      (fun t => (t.outputs, t.vectorLatch, t.irqOut)) = some ([.data 0x14], 0x00, true) ∧
    seen (exec (.wrVector 0x00) { State.reset with vectorLatch := 0x10, irqOut := true }) (·.vectorLatch) = some 0x10 := by decide

theorem test_V107 : seen (exec .rdVector State.reset) (·.outputs) = some [.data 0x00] := by decide

/-- The "before" state of V121. -/
def beforeReset : State :=
  { State.reset with
    window1Base := 0x6000, screenCtrl := 0x30, bellCtrl := 0x04, codes := [(0, 0x41)], vectorLatch := 0x14, irqOut := true }

theorem test_V121 :
    exec .reset beforeReset = .next { beforeReset with vectorLatch := 0x00, irqOut := false, outputs := [.irq false] } := rfl

theorem test_V120 :
    seen (exec .powerOn beforeReset) (fun t => (t.window1Base, t.screenCtrl, t.bellCtrl, t.codes, t.vectorLatch, t.irqOut)) =
      some (0x0000, 0x00, 0x00, [], 0x00, false) := rfl

/-! The notation (30_encoding.md R87, R88). -/

theorem test_assemble_pairs :
    (Asm.setw2 0x6140).assemble = [⟨0x10000A61, 0⟩, ⟨0x10000B40, 0⟩] ∧
    (Asm.vput 0x6003 0x41 0x08).assemble = [⟨0x20600341, 0⟩, ⟨0x30600308, 0⟩] ∧
    Asm.vsync.assemble = [⟨0x60000001, 0⟩, ⟨0x60000000, 0⟩] := by decide

theorem test_parse_lines :
    Asm.parse ['w', 'r', ' ', '0', 'x', '4', '2', ',', ' ', '0', 'x', '5', 'A'] = some (.wr 0x0042 0x5A) ∧
    Asm.parse ['f', 'r', 'a', 'm', 'e', ' ', '3', '2'] = some (.frame 32) ∧
    Asm.parse ['v', 'b', 'l', 'a', 'n', 'k', ' ', '2'] = none := by decide

/-! A state and operands for each statement with hypotheses, at the ends of their ranges. -/

/-- The state with the stimuli waiting. -/
def waiting (ws : List Stimulus) : State :=
  { State.reset with inbox := ws }

theorem test_meets_EncodedInstructionsDecode :
    (Instr.wrUnmapped 0xFFFF 0xFF).wf = true ∧ (Instr.rdUnmapped 0x0005).wf = true ∧ (Instr.renderFrame 65536).wf = true := by
  decide

/-- An operation whose kind has don't-care bits, all of them set in the word. -/
theorem test_meets_DecodedWordsKeepEveryUsedBit :
    decode ⟨0x60FFFFFF, 7⟩ = .ok (.vblankEdge true) ∧ decode ⟨0x000006FF, 7⟩ = .ok .rdW1bHi := by decide

theorem test_meets_DecoderPicksMostSpecificRow :
    decode ⟨0x10FFF7AA, 0⟩ = .ok (.wrVector 0xAA) ∧ decode ⟨0xC0000000, 0⟩ = .error .reservedKind := by decide

theorem test_meets_StepRunsDecodedStimulus :
    (waiting [⟨0x70000000, 0⟩, ⟨0x80000000, 0⟩]).inbox = ⟨0x70000000, 0⟩ :: [⟨0x80000000, 0⟩] ∧
    decode ⟨0x70000000, 0⟩ = .ok .kbdIrq ∧ (waiting [⟨0xC0000000, 0⟩]).inbox = ⟨0xC0000000, 0⟩ :: [] ∧
    decode ⟨0xC0000000, 0⟩ = .error .reservedKind := by decide

/-- The last word that is no reserved one, and the first of each reserved range. -/
theorem test_meets_NoStimulusFaultsOnlyReservedRefused :
    ¬ Claims.reservedWord 0xB0FFFFFF ∧ Claims.reservedWord 0xC0000000 ∧ Claims.reservedWord 0x01000000 := by
  refine ⟨?_, ?_, ?_⟩ <;> unfold Claims.reservedWord <;> decide

theorem test_meets_StimuliLeaveTheQueueAlone :
    (∃ t, exec .rdBell (waiting [⟨0x70000000, 0⟩]) = .next t) ∧ State.reset.inbox = [] := ⟨⟨_, rfl⟩, rfl⟩

theorem test_meets_TwoPhaseRoundTrip :
    (waiting (writePair .window1Base 0xABCD ++ [⟨0x70000000, 0⟩])).inbox = writePair .window1Base 0xABCD ++ [⟨0x70000000, 0⟩] ∧
    (waiting (writePair .cursorBase 0xFFFF)).inbox = writePair .cursorBase 0xFFFF ++ [] := ⟨rfl, rfl⟩

theorem test_meets_UnkStatusReadsBackWithBitTwoSet :
    ∃ t, exec .rdUnkStatus { State.reset with unkStatus := 0xFB } = .next t ∧ (1 : Nat) ≠ 2 ∧ (3 : Nat) ≠ 2 :=
  ⟨_, rfl, by decide, by decide⟩

theorem test_meets_BeeperFollowsLastBellWrite :
    ∃ t, exec (.wrBell 0x04) State.reset = .next t ∧ .beep true ∈ t.outputs := ⟨_, rfl, by decide⟩

theorem test_meets_WriteOnlyAndUnmappedReadsReturnADraw :
    Instr.rdW1bHi ∈ Claims.drawReads 0 ∧ Instr.rdUnmapped 0xFFFF ∈ Claims.drawReads 0xFFFF := by decide

theorem test_meets_RepeatedWriteIsOneWrite :
    Instr.wrW1bHi 0xAB ∈ Claims.writes 0 0xAB ∧ Instr.wrW1bHi 0xAB ∉ Claims.lowWrites 0xAB ∧
    Instr.vramAttrWr 0xFFFF 0xFF ∈ Claims.writes 0xFFFF 0xFF ∧ Instr.vramAttrWr 0xFFFF 0xFF ∉ Claims.lowWrites 0xFF ∧
    Instr.wrCbLo 0x05 ∈ Claims.writes 0 0x05 ∧ Instr.wrCbLo 0x05 ∈ Claims.lowWrites 0x05 := by decide

theorem test_meets_EachComponentHasItsOwnWriters :
    ∃ t, exec (.wrSctrl 0x30) State.reset = .next t ∧ Instr.wrSctrl 0x30 ≠ .powerOn := ⟨_, rfl, by decide⟩

theorem test_meets_TwoEventsAssertTheLine :
    (Instr.vblankEdge true, (0x10 : Byte)) ∈ Claims.events ∧
    ∃ t, exec .kbdIrq State.reset = .next t ∧ State.reset.irqOut = false ∧ t.irqOut = true := ⟨by decide, _, rfl, rfl, rfl⟩

theorem test_meets_LaterEventReplacesEarlier :
    (Instr.vblankEdge true, (0x10 : Byte)) ∈ Claims.events ∧ (Instr.kbdIrq, (0x14 : Byte)) ∈ Claims.events := by decide

theorem test_meets_OnlyTheVectorReadHasASideEffect :
    (∃ t, exec .rdVector { State.reset with vectorLatch := 0x14 } = .next t) ∧ Instr.rdUnkStatus ∈ Claims.plainReads 0 ∧
    Instr.vramAttrRd 0xFFFF ∈ Claims.plainReads 0xFFFF := ⟨⟨_, rfl⟩, by decide, by decide⟩

theorem test_meets_ServiceClearsLineAndKeepsCause : (Instr.kbdIrq, (0x14 : Byte)) ∈ Claims.events := by decide

theorem test_meets_OnlyServiceOrResetClearsTheLine :
    ∃ t, exec .irqAck { State.reset with irqOut := true } = .next t ∧ t.irqOut = false := ⟨_, rfl, rfl⟩

theorem test_meets_LineOutputIsTheLine :
    ∃ t, exec .kbdIrq State.reset = .next t ∧ .irq true ∈ t.outputs ∧ t.irqOut ≠ State.reset.irqOut :=
  ⟨_, rfl, by decide, by decide⟩

theorem test_meets_ResetKeepsRegistersAndDisplay : ∃ t, exec .reset beforeReset = .next t := ⟨_, rfl⟩

/-- A state with a cause in the latch and one written cell, whatever the parameters are. -/
theorem test_meets_StepKeepsLegalLatchAndMemory :
    ∃ s t, Safety.Inv s ∧ s.vectorLatch = keyboardCause ∧ step s = .next t ∧ t.irqOut = true ∧ t.vectorLatch = 0x10 := by
  refine ⟨{ State.reset with vectorLatch := 0x14, inbox := [⟨0x60000001, 0⟩] }, _, ?_, rfl, rfl, rfl, rfl⟩
  exact ⟨.inr (.inr rfl), rfl, rfl⟩

theorem test_meets_EveryAddressHasAnIndex :
    tc.vramSize = 2 ^ 12 ∧ tc.vramSize ∣ tc.vramBase.toNat := by decide

/-- The lower and the upper end of the addresses that share an index, under TC. -/
theorem test_meets_VideoReadsReturnLastWrite :
    Config.machine.idx 0x7005 = Config.machine.idx 0x7005 ∧ tc.idx 0x0005 = tc.idx 0xF005 ∧ tc.idx 0x5FFF = tc.idx 0x6FFF := by
  refine ⟨rfl, ?_, ?_⟩ <;> decide

theorem test_meets_FramePixelsAreTheRuleBody : (25 : Nat) < 26 ∧ (79 : Nat) < 80 ∧ (8 : Nat) < 9 ∧ (5 : Nat) < 6 := by decide

theorem test_meets_LineAttributeIsTheNearestSentinels : (79 : Nat) < 80 := by decide

/-- A reversed cell with every other attribute bit but blink set, no cursor, no invert. -/
theorem test_meets_ConcealThenReverse :
    (0xBF : Byte).getLsbD 6 = false ∧ (0x41 : Byte) ≠ 0xC0 ∧ (0x41 : Byte) ≠ 0xE8 ∧ windows.cursorStart.getLsbD 5 = false ∧
    windows.screenCtrl.getLsbD 5 = false := by decide

/-- Both phases, at the ends of each. -/
theorem test_meets_BlinkBlanksEveryOtherPhase :
    (0x40 : Byte).getLsbD 6 = true ∧ windows.cursorStart.getLsbD 5 = false ∧ windows.screenCtrl.getLsbD 5 = false ∧
    (0x20 &&& 0x20) ≠ 0 ∧ (0x3F &&& 0x20) ≠ 0 ∧ (0x1F &&& 0x20) = 0 ∧ (0x40 &&& 0x20) = 0 := by decide

theorem test_meets_GlobalInvertInvertsEveryPixel :
    (⟨0x6F9F, 0xE8, 0x10⟩ : Cell).code = 0xE8 ∧ { windows with screenCtrl := 0x20 }.cursorStart.getLsbD 5 = false := by decide

theorem test_meets_SentinelCellsRenderBlank :
    (⟨0x6000, 0xC0, 0x10⟩ : Cell).code = 0xC0 ∧ (⟨0x6000, 0xE8, 0x10⟩ : Cell).code = 0xE8 := by decide

/-- Attributes that differ in every bit without effect; and two codes with one glyph, a blank one. -/
theorem test_meets_OnlyFourEffectBitsAndTwoCodesMatter :
    (∀ a : Half, State.loadAttr { tc with initAttrs := fun _ => 0x10 } { State.reset with attrs := [(0, 0xB7)] } a &&& 0x58 =
      State.reset.loadAttr { tc with initAttrs := fun _ => 0x10 } a &&& 0x58) ∧
    (0x00 : Byte) ≠ 0xC0 ∧ (0x00 : Byte) ≠ 0xE8 ∧ (0x42 : Byte) ≠ 0xC0 ∧ (0x42 : Byte) ≠ 0xE8 ∧
    glyphByte tc 0x00 0 = glyphByte tc 0x42 0 := by
  refine ⟨fun a => ?_, by decide, by decide, by decide, by decide, by decide⟩
  simp only [State.loadAttr, State.reset, Memory.read]
  split <;> rfl

/-- Each of the three conditions holds of a state of which the other two do not. -/
theorem test_meets_DegenerateCursorIsHidden :
    ((withCursor 0x26 0x26 0x10).cursorEnd &&& 0x0F).toNat ≤ ((withCursor 0x26 0x26 0x10).cursorStart &&& 0x0F).toNat ∧
    9 ≤ ((withCursor 0x29 0x2F 0x10).cursorStart &&& 0x0F).toNat ∧
    (∀ y x, y < 24 → x < 80 → sourceAddress Config.machine { withCursor 0x26 0x29 0x10 with cursorBase := 0x6780 } y x ≠
      ({ withCursor 0x26 0x29 0x10 with cursorBase := 0x6780 } : State).cursorBase) := by
  refine ⟨by decide, by decide, fun y x hy hx h => ?_⟩
  have e : sourceAddress Config.machine { withCursor 0x26 0x29 0x10 with cursorBase := 0x6780 } y x =
      0x6000 + BitVec.ofNat 16 (y * 80 + x) := if_pos ⟨hy, by simpa [State.split, withCursor, windows, truncDiv] using hy⟩
  rw [e] at h
  have h' : (0x6000 + (y * 80 + x) % 65536) % 65536 = 0x6780 := congrArg BitVec.toNat h
  rw [Nat.mod_eq_of_lt (by omega : y * 80 + x < 65536), Nat.mod_eq_of_lt (by omega : 0x6000 + (y * 80 + x) < 65536)] at h'
  omega

theorem test_meets_FrameNumberMattersByOneBit : (0 &&& 0x20) = (95 &&& 0x20) ∧ (32 &&& 0x20) = (63 &&& 0x20) := by decide

theorem test_meets_SteadyCursorIgnoresFrameNumber :
    (withCursor 0x26 0x29 0x10).screenCtrl.getLsbD 4 = true ∧
    ∀ a : Half, ((withCursor 0x26 0x29 0x10).loadAttr tc a).getLsbD 6 = false :=
  ⟨by decide, fun _ => (by decide : (0x00 : Byte).getLsbD 6 = false)⟩

/-- V32 and V34: 100 bytes up is one row and 20 bytes, 40 bytes down is no row and 40 bytes. -/
theorem test_meets_SplitCountsWholeRows :
    (0x6064 : Half).toNat = (0x6000 : Half).toNat + 80 * 1 + 20 ∧ (0x6000 : Half).toNat = (0x5FD8 : Half).toNat + 80 * 0 + 40 ∧
    (79 : Nat) < 80 := by decide

/-- V31, V33, V97 and V35: the rows on both sides of the split, and splits of 24 or more, of 0 and below. -/
theorem test_meets_RowsComeFromTheirWindows :
    ((19 : Nat) : Int) < (rowsOf 0x6000 0x6140 []).1 ∧ ((20 : Nat) : Int) = (rowsOf 0x6000 0x6140 []).1 + (0 : Nat) ∧
    ((23 : Nat) : Int) = (rowsOf 0x6000 0x6140 []).1 + (3 : Nat) ∧ 24 ≤ (rowsOf 0x6000 0x6000 []).1 ∧
    24 ≤ (rowsOf 0x6000 0x5FB0 []).1 ∧ (rowsOf 0x6000 0x6780 []).1 = -((0 : Nat) : Int) ∧
    (rowsOf 0x6000 0x6960 []).1 = -((6 : Nat) : Int) ∧ (79 : Nat) < 80 := by decide

/-- A glyph store that agrees with TG but for the bytes a frame never reads. -/
theorem test_meets_GlyphFetchesStayInTheBank :
    ∀ (code : Byte) (i : Nat), i < 9 →
      (if (tc.variant.bankOffset + 16 * code.toNat + i) % 16 = 9 then (0xFF : Byte)
        else tg (tc.variant.bankOffset + 16 * code.toNat + i)) = tc.glyph (tc.variant.bankOffset + 16 * code.toNat + i) := by
  intro code i hi
  have h : ¬ (tc.variant.bankOffset + 16 * code.toNat + i) % 16 = 9 := by
    have : tc.variant.bankOffset = 0 := rfl
    omega
  rw [if_neg h]
  rfl

/-- Two states unlike in every register a frame does not read and in every unknown bit. -/
theorem test_meets_FrameReadsOnlyTheDefinedBits :
    ∃ s t : State, s ≠ t ∧ s.window1Base = t.window1Base ∧ s.window2Base = t.window2Base ∧ s.cursorBase = t.cursorBase ∧
      s.cursorStart &&& 0x2F = t.cursorStart &&& 0x2F ∧ s.cursorEnd &&& 0x0F = t.cursorEnd &&& 0x0F ∧
      s.screenCtrl &&& 0x30 = t.screenCtrl &&& 0x30 ∧
      ∀ a : Half, s.loadCode tc a = t.loadCode tc a ∧ s.loadAttr tc a = t.loadAttr tc a :=
  ⟨withCursor 0x26 0x29 0x10,
   { withCursor 0xF6 0xF9 0xDF with window1End := 0xFFFF, unkStatus := 0xFF, bellCtrl := 0x04, vectorLatch := 0x14, irqOut := true },
   by decide, rfl, rfl, rfl, by decide, by decide, by decide, fun _ => ⟨rfl, rfl⟩⟩

end Sys2Proof.Tests
end

section
/-! PROOFS. The control register bank (40_register_bank.md): its writes said once for all registers of a kind, and the
statements O8, O10 and O11. -/

namespace Sys2Proof.Machine

/-! The two ports of a two-phase register. -/

/-- The write to the register's high port (40_register_bank.md R100). -/
def WordReg.highWrite : WordReg → Byte → Instr
  | .window1Base => .wrW1bHi
  | .window1End => .wrW1eHi
  | .window2Base => .wrW2bHi
  | .cursorBase => .wrCbHi

/-- The write to the register's low port (40_register_bank.md R100). -/
def WordReg.lowWrite : WordReg → Byte → Instr
  | .window1Base => .wrW1bLo
  | .window1End => .wrW1eLo
  | .window2Base => .wrW2bLo
  | .cursorBase => .wrCbLo

theorem decodeWrite_highOffset (r : WordReg) (d : Byte) : decodeWrite r.highOffset d = r.highWrite d := by
  cases r <;> rfl

theorem decodeWrite_lowOffset (r : WordReg) (d : Byte) : decodeWrite (r.highOffset + 1) d = r.lowWrite d := by
  cases r <;> rfl

theorem decode_highPort (r : WordReg) (d : Byte) (f : Nat) :
    decode ⟨stimulusWord .busWr r.highOffset d, f⟩ = .ok (r.highWrite d) := by
  rw [decode_busWr, decodeWrite_highOffset]

theorem decode_lowPort (r : WordReg) (d : Byte) (f : Nat) :
    decode ⟨stimulusWord .busWr (r.highOffset + 1) d, f⟩ = .ok (r.lowWrite d) := by
  rw [decode_busWr, decodeWrite_lowOffset]

theorem exec_highWrite (r : WordReg) (d : Byte) (s : State) : exec (r.highWrite d) s = .next (s.writeHigh r d) := by
  cases r <;> rfl

theorem exec_lowWrite (r : WordReg) (d : Byte) (s : State) :
    exec (r.lowWrite d) s = .next (s.writeLow Config.machine r d) := by
  cases r <;> rfl

/-- The Commit diagnostic is one output or none (40_register_bank.md R118). -/
theorem commitOutputs_cases (c : Config) (r : WordReg) (v : Half) :
    commitOutputs c r v = [] ∨ commitOutputs c r v = [.commit r v] := by
  unfold commitOutputs
  split
  · exact .inr rfl
  · exact .inl rfl

/-- A low-port write changes its register's low byte and emits at most the Commit of the new value. -/
theorem exec_lowWrite_commit (r : WordReg) (d : Byte) (s : State) :
    ∃ os, (os = [] ∨ os = [.commit r (setLowByte (s.getWord r) d)]) ∧
      exec (r.lowWrite d) s = .next ((s.setWord r (setLowByte (s.getWord r) d)).drive os) :=
  ⟨_, commitOutputs_cases Config.machine r _, exec_lowWrite r d s⟩

@[simp] theorem getWord_drive (s : State) (os : List Output) (r : WordReg) : (s.drive os).getWord r = s.getWord r := by
  cases r <;> rfl

/-- After a high-port write the register reads as the byte written over its old low byte. -/
theorem exec_highWrite_getWord (r : WordReg) (d : Byte) (s : State) :
    ∃ t, exec (r.highWrite d) s = .next t ∧ t.getWord r = d ++ (s.getWord r).extractLsb' 0 8 :=
  ⟨_, exec_highWrite r d s, by simp [State.writeHigh, setHighByte_eq]⟩

/-- After a low-port write the register reads as its old high byte over the byte written. -/
theorem exec_lowWrite_getWord (r : WordReg) (d : Byte) (s : State) :
    ∃ t, exec (r.lowWrite d) s = .next t ∧ t.getWord r = (s.getWord r).extractLsb' 8 8 ++ d :=
  ⟨_, exec_lowWrite r d s, by simp [State.writeLow, setLowByte_eq]⟩

/-- Settles O8: the decoding and the meaning of the two ports, at each of the four registers. -/
theorem twoPhaseWritesReplaceOneByte : Obligations.TwoPhaseWritesReplaceOneByte := by
  intro s d f
  refine ⟨⟨?_, ?_, ?_, ?_, ?_, ?_, ?_, ?_⟩, ?_, ?_, ?_, ?_, ?_, ?_, ?_, ?_⟩
  · exact decode_highPort .window1Base d f
  · exact decode_lowPort .window1Base d f
  · exact decode_highPort .window1End d f
  · exact decode_lowPort .window1End d f
  · exact decode_highPort .window2Base d f
  · exact decode_lowPort .window2Base d f
  · exact decode_highPort .cursorBase d f
  · exact decode_lowPort .cursorBase d f
  · exact exec_highWrite .window1Base d s
  · exact exec_highWrite .window1End d s
  · exact exec_highWrite .window2Base d s
  · exact exec_highWrite .cursorBase d s
  · exact exec_lowWrite_commit .window1Base d s
  · exact exec_lowWrite_commit .window1End d s
  · exact exec_lowWrite_commit .window2Base d s
  · exact exec_lowWrite_commit .cursorBase d s

/-! The single-byte registers and the render. -/

/-- The write to a single-byte register (40_register_bank.md section 2). -/
def ByteReg.write : ByteReg → Byte → Instr
  | .cursorStart => .wrCstart
  | .cursorEnd => .wrCend
  | .screenCtrl => .wrSctrl
  | .unkStatus => .wrUnkStatus
  | .bellCtrl => .wrBell

/-- What the write of a single-byte register emits: only the bell's drives the beeper (40_register_bank.md R114). -/
def ByteReg.writeOutputs : ByteReg → Byte → List Output
  | .bellCtrl, d => [.beep (d.getLsbD 2)]
  | .cursorStart, _ | .cursorEnd, _ | .screenCtrl, _ | .unkStatus, _ => []

theorem exec_byteWrite (r : ByteReg) (d : Byte) (s : State) :
    exec (r.write d) s = .next (s.writeByte r d (r.writeOutputs d)) := by
  cases r <;> rfl

theorem exec_renderFrame (f : Nat) (s : State) :
    exec (.renderFrame f) s = .next (s.drive [.frame (renderFrame Config.machine s f)]) := rfl

/-- Settles O10: each kind of register write stores its byte whole, and the render's meaning has no stop. -/
theorem registerWritesStoreEveryByte : Obligations.RegisterWritesStoreEveryByte := by
  intro s d f
  refine ⟨?_, ?_, ?_, ?_, ?_, ?_, ?_, ?_, ?_, ?_, ?_, ?_, ?_, ?_⟩
  · exact exec_byteWrite .cursorStart d s
  · exact exec_byteWrite .cursorEnd d s
  · exact exec_byteWrite .screenCtrl d s
  · exact exec_byteWrite .unkStatus d s
  · exact ⟨_, exec_byteWrite .bellCtrl d s, getByte_setByte s .bellCtrl d⟩
  · exact exec_highWrite_getWord .window1Base d s
  · exact exec_lowWrite_getWord .window1Base d s
  · exact exec_highWrite_getWord .window1End d s
  · exact exec_lowWrite_getWord .window1End d s
  · exact exec_highWrite_getWord .window2Base d s
  · exact exec_lowWrite_getWord .window2Base d s
  · exact exec_highWrite_getWord .cursorBase d s
  · exact exec_lowWrite_getWord .cursorBase d s
  · exact ⟨_, exec_renderFrame f s⟩

/-! The read of `unk_status`. -/

theorem exec_rdUnkStatus (s : State) : exec .rdUnkStatus s = .next (s.drive [.data (s.unkStatus ||| 0x04)]) := rfl

@[simp] theorem drive_drive (s : State) (os os' : List Output) : (s.drive os).drive os' = s.drive os' := rfl

/-- The state a read of `unk_status` leaves is one the same read leaves alone. -/
theorem exec_rdUnkStatus_again {s t : State} (h : exec .rdUnkStatus s = .next t) : exec .rdUnkStatus t = .next t := by
  rw [exec_rdUnkStatus] at h
  cases h
  rw [exec_rdUnkStatus, drive_unkStatus, drive_drive]

/-- The mask 0x04 forces bit 2 and no other. -/
theorem getLsbD_or_bitTwo (v : Byte) (n : Nat) : (v ||| 0x04).getLsbD n = (v.getLsbD n || decide (n = 2)) := by
  have mask : (0x04 : Byte) = BitVec.twoPow 8 2 := rfl
  rw [mask, BitVec.getLsbD_or, BitVec.getLsbD_twoPow]
  simp [eq_comm]

/-- Settles O11: the port at 0x42 decodes to its write and read, the write stores verbatim, and the read forces bit 2
on the way out only. -/
theorem unkStatusReadsBackWithBitTwoSet : Obligations.UnkStatusReadsBackWithBitTwoSet := by
  intro s d f
  refine ⟨?_, ?_, ?_, ?_, ?_, ?_, ?_⟩
  · exact decode_busWr (BusPort.offset .unkStatus) d f
  · exact decode_busRd (BusPort.offset .unkStatus) d f
  · exact exec_byteWrite .unkStatus d s
  · exact exec_rdUnkStatus s
  · exact fun _ => exec_rdUnkStatus_again
  · rw [getLsbD_or_bitTwo, decide_eq_true rfl, Bool.or_true]
  · intro n hn
    rw [getLsbD_or_bitTwo, decide_eq_false hn, Bool.or_false]

end Sys2Proof.Machine
end

section
/-! PROOFS. The renderer (41_renderer.md): what each step of the scanline pipeline does, the line attribute of a row, what
carries from the bytes to the whole frame, and the statements O32, O34, O35, O37, O38 and O39. -/

namespace Sys2Proof.Machine

/-! The steps of the pipeline (41_renderer.md R140 to R147), a lemma for each side of each condition. -/

theorem isSentinel_iff {code : Byte} : isSentinel code = true ↔ code = 0xC0 ∨ code = 0xE8 := by
  simp [isSentinel]

theorem isSentinel_eq_false {code : Byte} (hC0 : code ≠ 0xC0) (hE8 : code ≠ 0xE8) : isSentinel code = false :=
  Bool.eq_false_iff.mpr fun h => (isSentinel_iff.mp h).elim hC0 hE8

theorem conceal_of_set {eff : Byte} (h : effConceal eff = true) (d : Byte) : conceal eff d = 0x00 := if_pos h

theorem conceal_of_clear {eff : Byte} (h : effConceal eff = false) (d : Byte) : conceal eff d = d := by
  simp [conceal, h]

theorem reverse_of_set {eff : Byte} (h : effReverse eff = true) (d : Byte) : reverse eff d = d ^^^ 0xFF := if_pos h

theorem reverse_of_clear {eff : Byte} (h : effReverse eff = false) (d : Byte) : reverse eff d = d := by
  simp [reverse, h]

theorem blink_of_clear {eff : Byte} (h : effBlink eff = false) (f : Nat) (d : Byte) : blink f eff d = d := by
  simp [blink, h]

theorem sentinelBlank_of_sentinel {code : Byte} (h : isSentinel code = true) (d : Byte) : sentinelBlank code d = 0x00 :=
  if_pos h

theorem sentinelBlank_of_ordinary {code : Byte} (h : isSentinel code = false) (d : Byte) : sentinelBlank code d = d := by
  simp [sentinelBlank, h]

theorem cursorOverlay_of_invisible {s : State} (h : s.cursorVisible = false) (f y : Nat) (a : Half) (i : Nat) (d : Byte) :
    cursorOverlay s f y a i d = d := by
  simp [cursorOverlay, State.cursorHit, h]

theorem globalInvert_of_set {s : State} (h : s.invert = true) (d : Byte) : globalInvert s d = d ^^^ 0xFF := if_pos h

theorem globalInvert_of_clear {s : State} (h : s.invert = false) (d : Byte) : globalInvert s d = d := by
  simp [globalInvert, h]

/-- A sentinel's byte before the overlays is blank, whatever the steps before the blank made of it. -/
theorem scanlineByte_of_sentinel (c : Config) (s : State) (f y : Nat) {cell : Cell} (eff : Byte) (i : Nat)
    (h : isSentinel cell.code = true) :
    scanlineByte c s f y cell eff i = globalInvert s (cursorOverlay s f y cell.addr i 0x00) := by
  unfold scanlineByte
  rw [sentinelBlank_of_sentinel h]

/-- An ordinary cell's byte is its glyph byte under the effects and the overlays; its code has no other part. -/
theorem scanlineByte_of_ordinary (c : Config) (s : State) (f y : Nat) {cell : Cell} (eff : Byte) (i : Nat)
    (h : isSentinel cell.code = false) :
    scanlineByte c s f y cell eff i = globalInvert s (cursorOverlay s f y cell.addr i
      (blink f eff (reverse eff (conceal eff (glyphByte c cell.code i))))) := by
  unfold scanlineByte underline
  rw [sentinelBlank_of_ordinary h]

/-- Settles O37: the blank forgets all that stood before it, so the overlays of 0x00 are left. -/
theorem sentinelCellsRenderBlank : Obligations.SentinelCellsRenderBlank :=
  fun c s f y _ eff i h => scanlineByte_of_sentinel c s f y eff i (isSentinel_iff.mpr h)

/-- Settles O35: the sentinel blank, the blink and the overlays drop out, and conceal under reverse is left, which the
four values of its two bits decide. -/
theorem concealThenReverse : Obligations.ConcealThenReverse := by
  intro c s f y cell eff i hBlink hC0 hE8 hCursor hInvert
  rw [scanlineByte_of_ordinary c s f y eff i (isSentinel_eq_false hC0 hE8), globalInvert_of_clear hInvert,
    cursorOverlay_of_invisible hCursor, blink_of_clear hBlink]
  cases hC : eff.getLsbD 3 <;> cases hR : eff.getLsbD 4
  case false.false => rw [reverse_of_clear hR, conceal_of_clear hC]
  case false.true => rw [reverse_of_set hR, conceal_of_clear hC]
  case true.false => rw [reverse_of_clear hR, conceal_of_set hC]
  case true.true => rw [reverse_of_set hR, conceal_of_set hC]; rfl

/-! The shape of the frame (41_renderer.md R131). -/

@[simp] theorem length_renderFrame (c : Config) (s : State) (f : Nat) : (renderFrame c s f).length = 234 := by
  simp [renderFrame, List.length_flatMap]

/-- Every row of a frame is a pixel row of some cell row, at some scanline. -/
theorem mem_renderFrame {c : Config} {s : State} {f : Nat} {row : List Bool} (h : row ∈ renderFrame c s f) :
    ∃ y i, row = pixelRow c s f y (shadedRow c s y) i := by
  obtain ⟨y, -, hRow⟩ := List.mem_flatMap.mp h
  obtain ⟨i, -, rfl⟩ := List.mem_map.mp hRow
  exact ⟨y, i, rfl⟩

theorem length_of_mem_renderFrame {c : Config} {s : State} {f : Nat} {row : List Bool} (h : row ∈ renderFrame c s f) :
    row.length = 480 := by
  obtain ⟨y, i, rfl⟩ := mem_renderFrame h
  rw [length_pixelRow, length_shadedRow]

/-- Settles O32: the render's meaning has no stop and drives the grid only; the grid's shape is that of its lists. -/
theorem renderWritesNoStateAndReturnsAFullGrid : Obligations.RenderWritesNoStateAndReturnsAFullGrid :=
  fun s f => ⟨renderFrame Config.machine s f, exec_renderFrame f s, rfl, length_renderFrame _ s f,
    fun _ => length_of_mem_renderFrame⟩

/-! The line attribute along a row (41_renderer.md R135, R136). -/

/-- The running line attribute is the attribute of the last sentinel passed, or what the run began with. -/
theorem lineAttrOf_eq_lastSentinel (line : Byte) (cells : List Cell) :
    lineAttrOf line cells = ((cells.reverse.find? (fun cell => isSentinel cell.code)).map Cell.attr).getD line := by
  induction cells using List.reverseRecOn with
  | nil => rfl
  | append_singleton cells cell ih =>
    have step : lineAttrOf line (cells ++ [cell]) = lineAttrAfter (lineAttrOf line cells) cell := by
      simp [lineAttrOf]
    rw [step, List.reverse_append, List.reverse_singleton, List.singleton_append]
    cases h : isSentinel cell.code with
    | true => simp [lineAttrAfter, h]
    | false => simp [lineAttrAfter, h, ih]

/-- The line attribute the fetched cells of columns 0 to `x` leave is the nearest sentinel's. -/
theorem lineAttrOf_fetchCell (c : Config) (s : State) (y x : Nat) :
    lineAttrOf 0x00 ((List.range (x + 1)).map (fetchCell c s y)) = Claims.lineAttrAt c s y x := by
  rw [lineAttrOf_eq_lastSentinel, ← List.map_reverse, List.find?_map, Option.map_map]
  have sentinel : (fun cell => isSentinel cell.code) ∘ fetchCell c s y = (fun k =>
      s.loadCode c (sourceAddress c s y k) == 0xC0 || s.loadCode c (sourceAddress c s y k) == 0xE8) := rfl
  rw [sentinel]
  unfold Claims.lineAttrAt
  split
  · next k h => rw [h]; rfl
  · next h => rw [h]; rfl

/-- Settles O34: cell `x` carries the line attribute that columns 0 to `x` leave, which is the nearest sentinel's. -/
theorem lineAttributeIsTheNearestSentinels : Obligations.LineAttributeIsTheNearestSentinels := by
  intro c s y x hx
  have firstCells : ((List.range 80).map (fetchCell c s y)).take (x + 1) =
      (List.range (x + 1)).map (fetchCell c s y) := by
    rw [← List.map_take, List.take_range, Nat.min_eq_left hx]
  rw [shadedRow, getElem?_shadeCells, firstCells, lineAttrOf_fetchCell, List.getElem?_map, List.getElem?_range hx]
  rfl

/-! The global invert (41_renderer.md R147), from the register bit to the frame. -/

/-- The state with the invert bit of `screen_ctrl` toggled. -/
def State.toggleInvert (s : State) : State :=
  { s with screenCtrl := s.screenCtrl ^^^ 0x20 }

@[simp] theorem toggleInvert_invert (s : State) : s.toggleInvert.invert = !s.invert := by
  simp [State.toggleInvert, State.invert]

@[simp] theorem toggleInvert_steady (s : State) : s.toggleInvert.steady = s.steady := by
  simp [State.toggleInvert, State.steady]

theorem cursorOverlay_toggleInvert (s : State) (f y : Nat) (a : Half) (i : Nat) (d : Byte) :
    cursorOverlay s.toggleInvert f y a i d = cursorOverlay s f y a i d := by
  unfold cursorOverlay State.cursorHit State.cursorBlanked
  rw [toggleInvert_steady]
  rfl

theorem globalInvert_toggleInvert (s : State) (d : Byte) : globalInvert s.toggleInvert d = ~~~ globalInvert s d := by
  have ones : d ^^^ 0xFF = ~~~d := BitVec.xor_allOnes
  unfold globalInvert
  rw [toggleInvert_invert, ones]
  cases s.invert <;> simp

theorem scanlineByte_toggleInvert (c : Config) (s : State) (f y : Nat) (cell : Cell) (eff : Byte) (i : Nat) :
    scanlineByte c s.toggleInvert f y cell eff i = ~~~ scanlineByte c s f y cell eff i := by
  unfold scanlineByte
  rw [globalInvert_toggleInvert, cursorOverlay_toggleInvert]

theorem shadedRow_toggleInvert (c : Config) (s : State) (y : Nat) : shadedRow c s.toggleInvert y = shadedRow c s y := rfl

theorem expandByte_not (d : Byte) : expandByte (~~~d) = (expandByte d).map (fun p => !p) := by
  rw [expandByte, expandByte, List.map_map]
  refine List.map_congr_left fun b _ => ?_
  have inByte : 7 - b < 8 := by omega
  simp [inByte]

theorem pixelRow_toggleInvert (c : Config) (s : State) (f y : Nat) (cells : List (Cell × Byte)) (i : Nat) :
    pixelRow c s.toggleInvert f y cells i = (pixelRow c s f y cells i).map (fun p => !p) := by
  simp only [pixelRow, scanlineByte_toggleInvert, expandByte_not, List.map_flatMap]

theorem cellRow_toggleInvert (c : Config) (s : State) (f y : Nat) :
    cellRow c s.toggleInvert f y = (cellRow c s f y).map (fun row => row.map (fun p => !p)) := by
  simp only [cellRow, shadedRow_toggleInvert, List.map_map]
  exact List.map_congr_left fun i _ => pixelRow_toggleInvert c s f y _ i

theorem renderFrame_toggleInvert (c : Config) (s : State) (f : Nat) :
    renderFrame c s.toggleInvert f = (renderFrame c s f).map (fun row => row.map (fun p => !p)) := by
  rw [renderFrame, renderFrame, List.map_flatMap]
  exact List.flatMap_congr fun y _ => cellRow_toggleInvert c s f y

/-- Settles O38: the toggled bit complements the last byte of the pipeline and so the frame, and a sentinel with no
cursor shows which value of the bit complements. -/
theorem globalInvertInvertsEveryPixel : Obligations.GlobalInvertInvertsEveryPixel := by
  refine ⟨renderFrame_toggleInvert, fun c s f y cell eff i hCode hCursor => ?_⟩
  rw [scanlineByte_of_sentinel c s f y eff i (isSentinel_iff.mpr hCode), cursorOverlay_of_invisible hCursor]
  split
  · next hSet => exact globalInvert_of_set hSet 0x00
  · next hClear => exact globalInvert_of_clear (Bool.eq_false_iff.mpr hClear) 0x00

/-! The attribute bits with an effect (41_renderer.md R137, R142, R152). Keeping only these bits commutes with the shading
of a row and changes no pixel. -/

/-- Bits 6, 4 and 3 of an attribute: blink, reverse and conceal. -/
def effectBits (b : Byte) : Byte :=
  b &&& 0x58

/-- The cell with only the effect bits of its attribute. -/
def Cell.effectOnly (cell : Cell) : Cell :=
  { cell with attr := effectBits cell.attr }

@[simp] theorem effConceal_effectBits (b : Byte) : effConceal (effectBits b) = effConceal b := by
  simp [effConceal, effectBits]

@[simp] theorem effReverse_effectBits (b : Byte) : effReverse (effectBits b) = effReverse b := by
  simp [effReverse, effectBits]

@[simp] theorem effBlink_effectBits (b : Byte) : effBlink (effectBits b) = effBlink b := by
  simp [effBlink, effectBits]

theorem effectBits_or (a b : Byte) : effectBits (a ||| b) = effectBits a ||| effectBits b := by
  apply BitVec.eq_of_getLsbD_eq
  intro i _
  simp [effectBits, Bool.and_or_distrib_right]

theorem lineAttrAfter_effectOnly (line : Byte) (cell : Cell) :
    lineAttrAfter (effectBits line) cell.effectOnly = effectBits (lineAttrAfter line cell) := by
  unfold lineAttrAfter Cell.effectOnly
  split <;> rfl

theorem shadeCells_effectOnly (line : Byte) (cells : List Cell) :
    shadeCells (effectBits line) (cells.map Cell.effectOnly) =
      (shadeCells line cells).map (fun e => (e.1.effectOnly, effectBits e.2)) := by
  induction cells generalizing line with
  | nil => rfl
  | cons cell rest ih =>
    simp only [List.map_cons, shadeCells, lineAttrAfter_effectOnly, ih, effectBits_or]
    rfl

theorem scanlineByte_effectOnly (c : Config) (s : State) (f y : Nat) (cell : Cell) (eff : Byte) (i : Nat) :
    scanlineByte c s f y cell.effectOnly (effectBits eff) i = scanlineByte c s f y cell eff i := by
  simp [scanlineByte, Cell.effectOnly, conceal, reverse, underline, blink]

theorem pixelRow_effectOnly (c : Config) (s : State) (f y : Nat) (line : Byte) (cells : List Cell) (i : Nat) :
    pixelRow c s f y (shadeCells (effectBits line) (cells.map Cell.effectOnly)) i =
      pixelRow c s f y (shadeCells line cells) i := by
  simp only [shadeCells_effectOnly, pixelRow, List.flatMap_map, scanlineByte_effectOnly]

/-- The state with other contents of the attribute array. -/
def State.withAttrs (s : State) (m : Memory) : State :=
  { s with attrs := m }

theorem fetchCell_effectOnly_withAttrs {c : Config} {s : State} {m : Memory}
    (h : ∀ a : Half, effectBits ((s.withAttrs m).loadAttr c a) = effectBits (s.loadAttr c a)) (y x : Nat) :
    (fetchCell c (s.withAttrs m) y x).effectOnly = (fetchCell c s y x).effectOnly :=
  congrArg (Cell.mk _ _) (h (sourceAddress c s y x))

/-- Past the fetch, the pipeline does not read the attribute array. -/
theorem pixelRow_withAttrs (c : Config) (s : State) (m : Memory) (f y : Nat) (cells : List (Cell × Byte)) (i : Nat) :
    pixelRow c (s.withAttrs m) f y cells i = pixelRow c s f y cells i := rfl

theorem pixelRow_shadedRow_withAttrs {c : Config} {s : State} {m : Memory}
    (h : ∀ a : Half, effectBits ((s.withAttrs m).loadAttr c a) = effectBits (s.loadAttr c a)) (f y i : Nat) :
    pixelRow c (s.withAttrs m) f y (shadedRow c (s.withAttrs m) y) i = pixelRow c s f y (shadedRow c s y) i := by
  have cells : ((List.range 80).map (fetchCell c (s.withAttrs m) y)).map Cell.effectOnly =
      ((List.range 80).map (fetchCell c s y)).map Cell.effectOnly := by
    rw [List.map_map, List.map_map]
    exact List.map_congr_left fun x _ => fetchCell_effectOnly_withAttrs h y x
  rw [pixelRow_withAttrs, shadedRow, shadedRow, ← pixelRow_effectOnly, cells, pixelRow_effectOnly]

/-- Contents of the attribute array that agree in the effect bits give the same frame. -/
theorem renderFrame_withAttrs {c : Config} {s : State} {m : Memory}
    (h : ∀ a : Half, effectBits ((s.withAttrs m).loadAttr c a) = effectBits (s.loadAttr c a)) (f : Nat) :
    renderFrame c (s.withAttrs m) f = renderFrame c s f :=
  List.flatMap_congr fun y _ => List.map_congr_left fun i _ => pixelRow_shadedRow_withAttrs h f y i

/-- Settles O39: the effect bits alone reach the frame, and a code that is no sentinel alone its glyph byte. -/
theorem onlyFourEffectBitsAndTwoCodesMatter : Obligations.OnlyFourEffectBitsAndTwoCodesMatter := by
  refine ⟨fun _ _ f _ h => renderFrame_withAttrs h f, fun c s f y p q eff i hAddr hpC0 hpE8 hqC0 hqE8 hGlyph => ?_⟩
  rw [scanlineByte_of_ordinary c s f y eff i (isSentinel_eq_false hpC0 hpE8),
    scanlineByte_of_ordinary c s f y eff i (isSentinel_eq_false hqC0 hqE8), hAddr, hGlyph]

end Sys2Proof.Machine
end

section
/-! PROOFS. The interrupt vector latch (42_vector_latch.md): what the two events and the vector read do, and the
statement O19. -/

namespace Sys2Proof.Machine

/-- Every event is an interrupt entry with the cause listed for it (60_exceptions.md R211, R215). -/
theorem exec_event (s : State) {e : Instr × Byte} (he : e ∈ Claims.events) :
    exec e.1 s = .next (s.enterInterrupt e.2) := by
  obtain rfl | rfl : e = (.vblankEdge true, 0x10) ∨ e = (.kbdIrq, 0x14) := by simpa [Claims.events] using he
  · rfl
  · rfl

theorem exec_rdVector (s : State) : exec .rdVector s = .next s.consumeCause := rfl

/-- The later of two interrupt entries overwrites all that the earlier wrote (42_vector_latch.md R182). -/
@[simp] theorem enterInterrupt_enterInterrupt (s : State) (cause cause' : Byte) :
    (s.enterInterrupt cause).enterInterrupt cause' = s.enterInterrupt cause' := rfl

/-- Settles O19: with or without the earlier event the block ends in the later event's interrupt entry, whose cause the
read drives. -/
theorem laterEventReplacesEarlier : Obligations.LaterEventReplacesEarlier := by
  intro s e he e' he'
  refine ⟨s.enterInterrupt e.2, s.enterInterrupt e'.2, exec_event s he, ?_, exec_event s he', _, exec_rdVector _, ?_⟩
  · rw [exec_event _ he', enterInterrupt_enterInterrupt]
  · rw [consumeCause_outputs, enterInterrupt_vectorLatch]

end Sys2Proof.Machine
end

section
/-! PROOFS. Exceptions (60_exceptions.md): that every operation completes, which words stand for one, what each makes of
the interrupt line, and the statements O6 and O17. -/

namespace Sys2Proof.Machine

/-! What completes, and what is rejected (60_exceptions.md R210). -/

/-- Every operation's meaning is a next state: no arm of the dispatch answers a fault or a refusal. -/
theorem exec_completes (i : Instr) (s : State) : ∃ t, exec i s = .next t := by
  cases i <;> exact ⟨_, rfl⟩

/-- The codes of the kinds are those below 0xC (30_encoding.md R81). -/
theorem exists_kind_ofBits_iff (k : BitVec 4) : (∃ kind, Kind.ofBits k = some kind) ↔ k.toNat < 0xC := by
  rw [← Option.isSome_iff_exists]
  revert k
  decide

/-- A word stands for an operation exactly when Z is 0 and K is the code of a kind (30_encoding.md R84 step 1). -/
theorem exists_decode_ok_iff (w : Stimulus) :
    (∃ i, decode w = .ok i) ↔ w.zBits = 0 ∧ ∃ kind, Kind.ofBits w.kindBits = some kind := by
  unfold decode
  by_cases hz : w.zBits = 0#4
  · cases hk : Kind.ofBits w.kindBits with
    | none => simp [hz]
    | some kind => simp [hz]
  · simp [hz]

theorem not_reservedWord_iff (w : Stimulus) : ¬ Claims.reservedWord w.word ↔ w.zBits = 0 ∧ w.kindBits.toNat < 0xC := by
  unfold Claims.reservedWord
  rw [not_or, not_not, not_le]
  rfl

/-- Settles O6: no arm of the dispatch stops, and both sides of the second part come down to Z = 0 and K below 0xC. -/
theorem noStimulusFaultsOnlyReservedRefused : Obligations.NoStimulusFaultsOnlyReservedRefused := by
  refine ⟨exec_completes, fun w => ?_⟩
  rw [exists_decode_ok_iff, exists_kind_ofBits_iff, not_reservedWord_iff]

/-! The interrupt line. -/

/-- The interrupt line after an operation: the two events assert it, the CPU's service and the resets clear it, and every
other operation leaves it (60_exceptions.md R211, R215; 42_vector_latch.md R186). -/
def lineAfter (line : Bool) : Instr → Bool
  | .vblankEdge true | .kbdIrq => true
  | .irqAck | .reset | .powerOn => false
  | _ => line

theorem exec_irqOut {i : Instr} {s t : State} (h : exec i s = .next t) : t.irqOut = lineAfter s.irqOut i := by
  cases i with
  | vblankEdge level =>
    cases level with
    | true => cases h; rfl
    | false => cases h; rfl
  | _ => cases h; rfl

/-- Only the two events raise a clear line. -/
theorem eq_event_of_lineAfter {i : Instr} (h : lineAfter false i = true) : i = .vblankEdge true ∨ i = .kbdIrq := by
  unfold lineAfter at h
  split at h
  · exact .inl rfl
  · exact .inr rfl
  all_goals cases h

/-- Settles O17: an event is an interrupt entry, and the line after an operation shows which ones raise it. -/
theorem twoEventsAssertTheLine : Obligations.TwoEventsAssertTheLine := by
  refine ⟨fun s _ he => exec_event s he, fun i s t hExec hClear hRaised => eq_event_of_lineAfter ?_⟩
  rw [← hClear, ← exec_irqOut hExec, hRaised]

end Sys2Proof.Machine
end

section
/-! PROOFS. Reset and hazards (70_reset_and_hazards.md): the frame between the two writes of a two-phase register, and
the statement O48. -/

namespace Sys2Proof.Machine

/-- What the last stimulus returned and emitted has no effect on a frame (log 4). -/
@[simp] theorem renderFrame_drive (c : Config) (s : State) (os : List Output) (f : Nat) :
    renderFrame c (s.drive os) f = renderFrame c s f := rfl

/-- A render after a high-port write shows the state whose register holds the byte written over its old low byte
(70_reset_and_hazards.md R245). -/
theorem exec_renderFrame_after_highWrite (r : WordReg) (d : Byte) (s : State) (f : Nat) :
    ∃ t, exec (r.highWrite d) s = .next t ∧ exec (.renderFrame f) t = .next
      ((s.setWord r (d ++ (s.getWord r).extractLsb' 0 8)).drive
        [.frame (renderFrame Config.machine (s.setWord r (d ++ (s.getWord r).extractLsb' 0 8)) f)]) := by
  refine ⟨s.writeHigh r d, exec_highWrite r d s, ?_⟩
  rw [exec_renderFrame, State.writeHigh, renderFrame_drive, drive_drive, setHighByte_eq]

/-- Settles O48: the render after the high-port write, at each of the three registers a frame reads. -/
theorem frameBetweenTwoWritesIsTorn : Obligations.FrameBetweenTwoWritesIsTorn := by
  intro s d f
  refine ⟨?_, ?_, ?_⟩
  · exact exec_renderFrame_after_highWrite .window1Base d s f
  · exact exec_renderFrame_after_highWrite .window2Base d s f
  · exact exec_renderFrame_after_highWrite .cursorBase d s f

end Sys2Proof.Machine
end

section
/-! PROOFS. Encoding (30_encoding.md): the fields of a word and of an operation, the rows of the opcode table, the lines
of a stimulus sequence, and the statements O1, O2, O3, O4 and O50. -/

namespace Sys2Proof

/-! A word and its four fields (30_encoding.md R80). -/

@[simp] theorem addr_stimulusWord (k : Kind) (a : Half) (d : Byte) (f : Nat) :
    Stimulus.addr ⟨stimulusWord k a d, f⟩ = a :=
  stimulusWord_addr k a d

@[simp] theorem data_stimulusWord (k : Kind) (a : Half) (d : Byte) (f : Nat) :
    Stimulus.data ⟨stimulusWord k a d, f⟩ = d :=
  stimulusWord_data k a d

/-- A word is its four fields side by side. -/
theorem word_eq_fields (w : Stimulus) : w.word = w.kindBits ++ w.zBits ++ w.addr ++ w.data := by
  have kz : w.kindBits ++ w.zBits = w.word.extractLsb' 24 8 := BitVec.extractLsb'_append_extractLsb'_eq_extractLsb' rfl
  have kza : w.word.extractLsb' 24 8 ++ w.addr = w.word.extractLsb' 8 24 :=
    BitVec.extractLsb'_append_extractLsb'_eq_extractLsb' rfl
  have kzad : w.word.extractLsb' 8 24 ++ w.data = w.word.extractLsb' 0 32 :=
    BitVec.extractLsb'_append_extractLsb'_eq_extractLsb' rfl
  rw [kz, kza, kzad, BitVec.extractLsb'_eq_self]

theorem word_eq_stimulusWord {w : Stimulus} {k : Kind} (hZ : w.zBits = 0) (hK : w.kindBits = k.bits) :
    w.word = stimulusWord k w.addr w.data := by
  rw [word_eq_fields, hZ, hK]
  rfl

/-- A mask that keeps K and Z acts on the address and the data alone. -/
theorem stimulusWord_and (k : Kind) (a m : Half) (d n : Byte) :
    stimulusWord k a d &&& ((0xFF : Byte) ++ m ++ n) = stimulusWord k (a &&& m) (d &&& n) := by
  have keepKZ : (k.bits ++ 0#4) &&& (0xFF : Byte) = k.bits ++ 0#4 := BitVec.and_allOnes
  calc stimulusWord k a d &&& ((0xFF : Byte) ++ m ++ n)
      = ((k.bits ++ 0#4) &&& (0xFF : Byte)) ++ (a &&& m) ++ (d &&& n) := by
        rw [← BitVec.and_append, ← BitVec.and_append]; rfl
    _ = stimulusWord k (a &&& m) (d &&& n) := by rw [keepKZ]; rfl

/-! The kinds and their codes (30_encoding.md R81). -/

theorem Kind.bits_of_ofBits {b : BitVec 4} {k : Kind} (h : Kind.ofBits b = some k) : b = k.bits := by
  revert b
  cases k <;> decide

theorem Kind.eq_of_bits_eq {k k' : Kind} (h : k.bits = k'.bits) : k = k' :=
  Option.some.inj (by rw [← Kind.ofBits_bits k, h, Kind.ofBits_bits])

/-- What decodes is a word with Z = 0 and the code of a kind, and it decodes to the operation of that kind
(30_encoding.md R84). -/
theorem decode_ok_iff {w : Stimulus} {i : Instr} :
    decode w = .ok i ↔ w.zBits = 0 ∧ ∃ k, w.kindBits = k.bits ∧ i = decodeKind w k := by
  constructor
  · intro h
    unfold decode at h
    split at h
    · cases h
    · next hZ =>
      split at h
      · next k hK => cases h; exact ⟨not_not.mp hZ, k, Kind.bits_of_ofBits hK, rfl⟩
      · cases h
  · rintro ⟨hZ, k, hK, rfl⟩
    unfold decode
    rw [if_neg (not_not.mpr hZ), hK, Kind.ofBits_bits]

/-! The bus rows (30_encoding.md R84 steps 3 and 4). -/

theorem decodeWrite_of_unlisted {a : Half} (h : BusPort.ofOffset a = none) (d : Byte) :
    decodeWrite a d = .wrUnmapped a d := by
  unfold decodeWrite; rw [h]

theorem decodeRead_of_unlisted {a : Half} (h : BusPort.ofOffset a = none) : decodeRead a = .rdUnmapped a := by
  unfold decodeRead; rw [h]

theorem not_listedOffset_iff {a : Half} : (!listedOffset a) = true ↔ BusPort.ofOffset a = none := by
  simp [listedOffset]

/-- Settles O1: the encoder puts each operand where its kind's fields are read, and the offset of a bus operation selects
that operation: its port's own offset, or an unlisted one. -/
theorem encodedInstructionsDecode : Obligations.EncodedInstructionsDecode := by
  intro i hWf
  rw [encode, decode_stimulusWord]
  refine congrArg Except.ok ?_
  cases i with
  | wrUnmapped a d => simp [Instr.fields, decodeKind, decodeWrite_of_unlisted (not_listedOffset_iff.mp hWf)]
  | rdUnmapped a => simp [Instr.fields, decodeKind, decodeRead_of_unlisted (not_listedOffset_iff.mp hWf)]
  | vblankEdge level => cases level <;> simp [Instr.fields, decodeKind]
  | _ => simp [Instr.fields, Instr.frameNumber, decodeKind, decodeWrite, decodeRead]

theorem wf_decodeWrite (a : Half) (d : Byte) : (decodeWrite a d).wf = true := by
  cases h : BusPort.ofOffset a with
  | none => rw [decodeWrite_of_unlisted h]; exact not_listedOffset_iff.mpr h
  | some p => unfold decodeWrite; rw [h]; cases p <;> rfl

theorem wf_decodeRead (a : Half) : (decodeRead a).wf = true := by
  cases h : BusPort.ofOffset a with
  | none => rw [decodeRead_of_unlisted h]; exact not_listedOffset_iff.mpr h
  | some p => unfold decodeRead; rw [h]; cases p <;> rfl

theorem fields_decodeWrite (a : Half) (d : Byte) : (decodeWrite a d).fields = (.busWr, a, d) := by
  cases h : BusPort.ofOffset a with
  | none => rw [decodeWrite_of_unlisted h]; rfl
  | some p => rw [← BusPort.offset_of_ofOffset h]; cases p <;> rfl

theorem fields_decodeRead (a : Half) : (decodeRead a).fields = (.busRd, a, 0) := by
  cases h : BusPort.ofOffset a with
  | none => rw [decodeRead_of_unlisted h]; rfl
  | some p => rw [← BusPort.offset_of_ofOffset h]; cases p <;> rfl

theorem frameNumber_decodeWrite (a : Half) (d : Byte) : (decodeWrite a d).frameNumber = 0 := by
  cases h : BusPort.ofOffset a with
  | none => rw [decodeWrite_of_unlisted h]; rfl
  | some p => unfold decodeWrite; rw [h]; cases p <;> rfl

theorem frameNumber_decodeRead (a : Half) : (decodeRead a).frameNumber = 0 := by
  cases h : BusPort.ofOffset a with
  | none => rw [decodeRead_of_unlisted h]; rfl
  | some p => unfold decodeRead; rw [h]; cases p <;> rfl

/-! What a kind reads of its word (30_encoding.md R80, R84). -/

/-- The address bits a kind reads. -/
def Kind.usedAddr : Kind → Half
  | .busRd | .busWr | .vramCodeWr | .vramAttrWr | .vramCodeRd | .vramAttrRd => 65535#16
  | .vblankEdge | .kbdIrq | .irqAck | .reset | .renderFrame | .powerOn => 0#16

/-- The data bits a kind reads. -/
def Kind.usedData : Kind → Byte
  | .busWr | .vramCodeWr | .vramAttrWr => 255#8
  | .vblankEdge => 1#8
  | .busRd | .vramCodeRd | .vramAttrRd | .kbdIrq | .irqAck | .reset | .renderFrame | .powerOn => 0#8

theorem usedBits_eq (k : Kind) : k.usedBits = (0xFF : Byte) ++ k.usedAddr ++ k.usedData := by
  cases k <;> rfl

/-- VBLANK_EDGE's level is its data byte's bit 0. -/
theorem levelData_eq (d : Byte) : (if d.getLsbD 0 then 1 else 0 : Byte) = d &&& 1#8 := by
  revert d; decide

/-- An operation is written with the used bits of the fields it was read from. -/
theorem fields_decodeKind (w : Stimulus) (k : Kind) :
    (decodeKind w k).fields = (k, w.addr &&& k.usedAddr, w.data &&& k.usedData) := by
  have allAddr (a : Half) : a &&& 65535#16 = a := BitVec.and_allOnes
  have allData (d : Byte) : d &&& 255#8 = d := BitVec.and_allOnes
  cases k with
  | busRd => simp [decodeKind, fields_decodeRead, Kind.usedAddr, Kind.usedData, allAddr]
  | busWr => simp [decodeKind, fields_decodeWrite, Kind.usedAddr, Kind.usedData, allAddr, allData]
  | vblankEdge => simp only [decodeKind, Instr.fields, levelData_eq, Kind.usedAddr, Kind.usedData, BitVec.and_zero]; rfl
  | _ => simp [decodeKind, Instr.fields, Kind.usedAddr, Kind.usedData, allAddr, allData]

theorem wf_decodeKind (w : Stimulus) (k : Kind) : (decodeKind w k).wf = true := by
  cases k with
  | busRd => exact wf_decodeRead _
  | busWr => exact wf_decodeWrite _ _
  | _ => rfl

theorem frameNumber_decodeKind (w : Stimulus) (k : Kind) :
    (decodeKind w k).frameNumber = if k = .renderFrame then w.frame else 0 := by
  cases k with
  | busRd => exact frameNumber_decodeRead _
  | busWr => exact frameNumber_decodeWrite _ _
  | _ => rfl

/-- Settles O2: the word read is its kind's own fields, and the operation is written with what the kind's mask leaves of
them. -/
theorem decodedWordsKeepEveryUsedBit : Obligations.DecodedWordsKeepEveryUsedBit := by
  intro w i h
  obtain ⟨hZ, k, hK, rfl⟩ := decode_ok_iff.mp h
  refine ⟨wf_decodeKind w k, k, ?_, ?_, frameNumber_decodeKind w k⟩
  · exact (congrArg Kind.ofBits hK).trans (Kind.ofBits_bits k)
  · rw [word_eq_stimulusWord hZ hK, usedBits_eq, stimulusWord_and, encode, fields_decodeKind]

/-! The rows of the opcode table (30_encoding.md R89): one per kind, and one more for each port and direction of the bus. -/

/-- The row that accepts the words of a kind whose address has the bits `a` under the mask `m`. -/
def tableRow (k : Kind) (a m : Half) : OpcodeRow :=
  ⟨(decodeKind ⟨stimulusWord k a 0, 0⟩ k).mnemonic, stimulusWord k a 0, (0xFF : Byte) ++ m ++ (0x00 : Byte)⟩

/-- The row of a kind, for every address. -/
def kindRow (k : Kind) : OpcodeRow :=
  tableRow k 0x0000 0x0000

/-- The row of a port, in the direction of the kind. -/
def portRow (k : Kind) (p : BusPort) : OpcodeRow :=
  tableRow k p.offset 0xFFFF

/-- The two kinds that access the bus. -/
def Kind.onBus (k : Kind) : Prop :=
  k = .busRd ∨ k = .busWr

/-- Every kind, in the order of the codes. -/
def Kind.all : List Kind :=
  [.busRd, .busWr, .vramCodeWr, .vramAttrWr, .vramCodeRd, .vramAttrRd, .vblankEdge, .kbdIrq, .irqAck, .reset,
   .renderFrame, .powerOn]

/-- Every row of the table is the row of a kind or of a port. -/
theorem row_cases {r : OpcodeRow} (h : r ∈ opcodeTable) :
    (∃ k, r = kindRow k) ∨ ∃ k p, k.onBus ∧ r = portRow k p := by
  have listed : ∀ r ∈ opcodeTable, r ∈ Kind.all.map kindRow ∨ r ∈ BusPort.all.map (portRow .busRd) ∨
      r ∈ BusPort.all.map (portRow .busWr) := by decide
  simp only [List.mem_map] at listed
  obtain ⟨k, -, rfl⟩ | ⟨p, -, rfl⟩ | ⟨p, -, rfl⟩ := listed r h
  · exact .inl ⟨k, rfl⟩
  · exact .inr ⟨.busRd, p, .inl rfl, rfl⟩
  · exact .inr ⟨.busWr, p, .inr rfl, rfl⟩

theorem kindRow_mem (k : Kind) : kindRow k ∈ opcodeTable := by
  cases k <;> decide

theorem portRow_mem {k : Kind} (hBus : k.onBus) (p : BusPort) : portRow k p ∈ opcodeTable := by
  obtain rfl | rfl := hBus
  · cases p <;> decide
  · cases p <;> decide

theorem specificity_tableRow (k : Kind) (a m : Half) : (tableRow k a m).specificity =
    ((List.range 32).filter (fun n => ((0xFF : Byte) ++ m ++ (0x00 : Byte)).getLsbD n)).length := rfl

@[simp] theorem specificity_kindRow (k : Kind) : (kindRow k).specificity = 8 :=
  (specificity_tableRow k _ _).trans (by decide)

@[simp] theorem specificity_portRow (k : Kind) (p : BusPort) : (portRow k p).specificity = 24 :=
  (specificity_tableRow k _ _).trans (by decide)

/-- Words put side by side are equal when they are part by part. -/
theorem bitVec_append_inj {m n : Nat} {x x' : BitVec m} {y y' : BitVec n} :
    x ++ y = x' ++ y' ↔ x = x' ∧ y = y' := by
  constructor
  · intro h
    have left := congrArg (BitVec.extractLsb' n m) h
    have right := congrArg (BitVec.extractLsb' 0 n) h
    simp only [BitVec.extractLsb'_append_eq_left, BitVec.extractLsb'_append_eq_right] at left right
    exact ⟨left, right⟩
  · rintro ⟨rfl, rfl⟩
    rfl

theorem word_and_rowMask (w : Stimulus) (k : Kind) (a m : Half) :
    w.word &&& (tableRow k a m).mask = w.kindBits ++ w.zBits ++ (w.addr &&& m) ++ 0#8 := by
  have keepKZ : (w.kindBits ++ w.zBits) &&& (0xFF : Byte) = w.kindBits ++ w.zBits := BitVec.and_allOnes
  calc w.word &&& (tableRow k a m).mask
      = ((w.kindBits ++ w.zBits) &&& (0xFF : Byte)) ++ (w.addr &&& m) ++ (w.data &&& 0#8) := by
        rw [word_eq_fields, ← BitVec.and_append, ← BitVec.and_append]; rfl
    _ = w.kindBits ++ w.zBits ++ (w.addr &&& m) ++ 0#8 := by rw [keepKZ, BitVec.and_zero]

theorem accepts_tableRow {k : Kind} {a m : Half} {w : Stimulus} :
    (tableRow k a m).accepts w.word = true ↔ w.zBits = 0 ∧ w.kindBits = k.bits ∧ w.addr &&& m = a := by
  have fields : w.kindBits ++ w.zBits ++ (w.addr &&& m) ++ 0#8 = k.bits ++ 0#4 ++ a ++ 0#8 ↔
      w.zBits = 0 ∧ w.kindBits = k.bits ∧ w.addr &&& m = a := by
    rw [bitVec_append_inj, bitVec_append_inj, bitVec_append_inj]
    tauto
  unfold OpcodeRow.accepts
  rw [beq_iff_eq, word_and_rowMask]
  exact fields

theorem accepts_kindRow {k : Kind} {w : Stimulus} :
    (kindRow k).accepts w.word = true ↔ w.zBits = 0 ∧ w.kindBits = k.bits := by
  simp [kindRow, accepts_tableRow]

theorem accepts_portRow {k : Kind} {p : BusPort} {w : Stimulus} :
    (portRow k p).accepts w.word = true ↔ w.zBits = 0 ∧ w.kindBits = k.bits ∧ w.addr = p.offset := by
  have allAddr : w.addr &&& 0xFFFF = w.addr := BitVec.and_allOnes
  rw [portRow, accepts_tableRow, allAddr]

/-- A row that accepts a word is the row of the word's kind, or of the port the word addresses. -/
theorem accepting_row_cases {q : OpcodeRow} {w : Stimulus} (hq : q ∈ opcodeTable) (h : q.accepts w.word = true) :
    ∃ k, w.zBits = 0 ∧ w.kindBits = k.bits ∧
      (q = kindRow k ∨ ∃ p, k.onBus ∧ w.addr = p.offset ∧ q = portRow k p) := by
  obtain ⟨k, rfl⟩ | ⟨k, p, hBus, rfl⟩ := row_cases hq
  · obtain ⟨hZ, hK⟩ := accepts_kindRow.mp h
    exact ⟨k, hZ, hK, .inl rfl⟩
  · obtain ⟨hZ, hK, hA⟩ := accepts_portRow.mp h
    exact ⟨k, hZ, hK, .inr ⟨p, hBus, hA, rfl⟩⟩

theorem BusPort.eq_of_offset_eq {p p' : BusPort} (h : p.offset = p'.offset) : p = p' :=
  Option.some.inj (by rw [← BusPort.ofOffset_offset p, h, BusPort.ofOffset_offset])

/-- The name of a port's write does not depend on the byte written. -/
theorem mnemonic_decodeWrite_offset (p : BusPort) (d d' : Byte) :
    (decodeWrite p.offset d).mnemonic = (decodeWrite p.offset d').mnemonic := by
  cases p <;> rfl

theorem mnemonic_portRow {k : Kind} (hBus : k.onBus) {p : BusPort} {w : Stimulus} (hA : w.addr = p.offset) :
    (portRow k p).mnemonic = (decodeKind w k).mnemonic := by
  obtain rfl | rfl := hBus
  · simp [portRow, tableRow, decodeKind, hA]
  · simpa [portRow, tableRow, decodeKind, hA] using mnemonic_decodeWrite_offset p 0 w.data

theorem mnemonic_kindRow {k : Kind} {w : Stimulus} (hPort : k.onBus → BusPort.ofOffset w.addr = none) :
    (kindRow k).mnemonic = (decodeKind w k).mnemonic := by
  have noPort : BusPort.ofOffset 0x0000 = none := by decide
  cases k with
  | busRd =>
    simp only [kindRow, tableRow, decodeKind, addr_stimulusWord, decodeRead_of_unlisted noPort,
      decodeRead_of_unlisted (hPort (.inl rfl)), Instr.mnemonic]
  | busWr =>
    simp only [kindRow, tableRow, decodeKind, addr_stimulusWord, decodeWrite_of_unlisted noPort,
      decodeWrite_of_unlisted (hPort (.inr rfl)), Instr.mnemonic]
  | _ => simp only [kindRow, tableRow, decodeKind, Instr.mnemonic]

/-- The row is the one with the most mask bits among those that accept the word (30_encoding.md R84). -/
def mostSpecific (r : OpcodeRow) (w : StimWord) : Prop :=
  r.accepts w = true ∧ ∀ q ∈ opcodeTable, q.accepts w = true → q = r ∨ q.specificity < r.specificity

theorem mostSpecific_portRow {k : Kind} {p : BusPort} {w : Stimulus} (hZ : w.zBits = 0)
    (hK : w.kindBits = k.bits) (hA : w.addr = p.offset) : mostSpecific (portRow k p) w.word := by
  refine ⟨accepts_portRow.mpr ⟨hZ, hK, hA⟩, fun q hq h => ?_⟩
  obtain ⟨k', -, hK', rfl | ⟨p', -, hA', rfl⟩⟩ := accepting_row_cases hq h
  · exact .inr (by rw [specificity_kindRow, specificity_portRow]; decide)
  · rw [Kind.eq_of_bits_eq (hK.symm.trans hK'), BusPort.eq_of_offset_eq (hA.symm.trans hA')]
    exact .inl rfl

theorem mostSpecific_kindRow {k : Kind} {w : Stimulus} (hZ : w.zBits = 0) (hK : w.kindBits = k.bits)
    (hPort : k.onBus → BusPort.ofOffset w.addr = none) : mostSpecific (kindRow k) w.word := by
  refine ⟨accepts_kindRow.mpr ⟨hZ, hK⟩, fun q hq h => ?_⟩
  obtain ⟨k', -, hK', rfl | ⟨p', hBus, hA', rfl⟩⟩ := accepting_row_cases hq h
  · rw [Kind.eq_of_bits_eq (hK.symm.trans hK')]
    exact .inl rfl
  · obtain rfl := Kind.eq_of_bits_eq (hK.symm.trans hK')
    exact absurd hA'.symm (BusPort.ofOffset_eq_none.mp (hPort hBus) p')

/-- Settles O3: a bus word that addresses a port is in the port's row, every other word in its kind's row, and a row
accepts only words that decode. -/
theorem decoderPicksMostSpecificRow : Obligations.DecoderPicksMostSpecificRow := by
  refine fun w => ⟨fun i hi => ?_, fun e he q hq => ?_⟩
  · obtain ⟨hZ, k, hK, rfl⟩ := decode_ok_iff.mp hi
    by_cases port : k.onBus ∧ ∃ p : BusPort, w.addr = p.offset
    · obtain ⟨hBus, p, hA⟩ := port
      exact ⟨portRow k p, portRow_mem hBus p, mnemonic_portRow hBus hA, mostSpecific_portRow hZ hK hA⟩
    · have noPort : k.onBus → BusPort.ofOffset w.addr = none := fun hBus =>
        BusPort.ofOffset_eq_none.mpr fun p hA => port ⟨hBus, p, hA.symm⟩
      exact ⟨kindRow k, kindRow_mem k, mnemonic_kindRow noPort, mostSpecific_kindRow hZ hK noPort⟩
  · rw [Bool.eq_false_iff]
    intro h
    obtain ⟨k, hZ, hK, -⟩ := accepting_row_cases hq h
    rw [decode_ok_iff.mpr ⟨hZ, k, hK, rfl⟩] at he
    cases he

/-- Settles O4: the thirteen words, decoded. -/
theorem listedWordsDecode : Obligations.ListedWordsDecode := by
  unfold Obligations.ListedWordsDecode
  decide

/-! The lines of a stimulus sequence (30_encoding.md R87, R88). -/

open Sys2Proof.Machine

/-- The pair `wr16` stands for is the register's high-port write and then its low-port write. -/
theorem decode_writePair (r : WordReg) (v : Half) :
    (writePair r v).map decode = [.ok (r.highWrite (v.extractLsb' 8 8)), .ok (r.lowWrite (v.extractLsb' 0 8))] := by
  simp only [writePair, plainStimulus, List.map_cons, List.map_nil, decode_highPort, decode_lowPort]

theorem pairOf_eq (r : WordReg) (v : Half) :
    Claims.pairOf r v = [r.highWrite (v.extractLsb' 8 8), r.lowWrite (v.extractLsb' 0 8)] := by
  cases r <;> rfl

theorem decode_writePair_eq_pairOf (r : WordReg) (v : Half) :
    (writePair r v).map decode = (Claims.pairOf r v).map Except.ok := by
  rw [decode_writePair, pairOf_eq]
  rfl

/-- Settles O50: a line of one or two words is decoded word by word, a two-phase line as its pair of writes. -/
theorem assembledLinesDecode : Obligations.AssembledLinesDecode := by
  refine ⟨fun line => ?_, by decide⟩
  cases line with
  | wr16 r v => exact decode_writePair_eq_pairOf r v
  | setw1 v => exact decode_writePair_eq_pairOf .window1Base v
  | setw1end v => exact decode_writePair_eq_pairOf .window1End v
  | setw2 v => exact decode_writePair_eq_pairOf .window2Base v
  | setcur v => exact decode_writePair_eq_pairOf .cursorBase v
  | vblank level => cases level <;> rfl
  | _ => simp [Asm.assemble, Claims.lineOps, decode_stimulusWord, decodeKind, plainStimulus]

end Sys2Proof
end

section
/-! PROOFS. What each stimulus can do to the block, said once (20_memory.md section 4), what follows of it for each
component, and the statements O7, O12, O16, O22, O23, O27 and O28. -/

namespace Sys2Proof.Machine

/-- An output that drives neither the interrupt line nor the beeper. -/
def Output.plain : Output → Prop
  | .data _ | .commit _ _ | .frame _ => True
  | .irq _ | .beep _ => False

/-- What a stimulus does to the block: the register, array or latch it writes, and what it drives. -/
inductive Effect (s : State) : Instr → State → Prop
  | wordWrite (i : Instr) (r : WordReg) (d : Byte) (v : Half) (os : List Output)
      (port : i = r.highWrite d ∨ i = r.lowWrite d) (plain : ∀ o ∈ os, o.plain) : Effect s i ((s.setWord r v).drive os)
  | byteWrite (r : ByteReg) (d : Byte) : Effect s (r.write d) ((s.setByte r d).drive (r.writeOutputs d))
  | codeWrite (a : Half) (d : Byte) : Effect s (.vramCodeWr a d) ((s.storeCode Config.machine a d).drive [])
  | attrWrite (a : Half) (d : Byte) : Effect s (.vramAttrWr a d) ((s.storeAttr Config.machine a d).drive [])
  | driveOnly (i : Instr) (os : List Output) (plain : ∀ o ∈ os, o.plain) : Effect s i (s.drive os)
  | draw (i : Instr) : Effect s i s.returnDraw
  | event (e : Instr × Byte) (he : e ∈ Claims.events) : Effect s e.1 (s.enterInterrupt e.2)
  | readLatch : Effect s .rdVector s.consumeCause
  | service : Effect s .irqAck s.serviceInterrupt
  | reset : Effect s .reset s.machineReset
  | powerOn : Effect s .powerOn s.powerUp

theorem commitOutputs_plain (c : Config) (r : WordReg) (v : Half) : ∀ o ∈ commitOutputs c r v, o.plain := by
  obtain h | h := commitOutputs_cases c r v
  · simp [h]
  · simp [h, Output.plain]

theorem Effect.highWrite (s : State) (r : WordReg) (d : Byte) : Effect s (r.highWrite d) (s.writeHigh r d) :=
  .wordWrite _ r d _ [] (.inl rfl) (by simp)

theorem Effect.lowWrite (s : State) (r : WordReg) (d : Byte) :
    Effect s (r.lowWrite d) (s.writeLow Config.machine r d) :=
  .wordWrite _ r d _ _ (.inr rfl) (commitOutputs_plain _ _ _)

theorem Effect.driveNothing (s : State) (i : Instr) : Effect s i (s.drive []) :=
  .driveOnly i [] (by simp)

theorem Effect.driveData (s : State) (i : Instr) (v : Byte) : Effect s i (s.drive [.data v]) :=
  .driveOnly i _ (by simp [Output.plain])

/-- What an operation answers is its effect. -/
theorem effect_of_exec {i : Instr} {s t : State} (h : exec i s = .next t) : Effect s i t := by
  cases i with
  | wrW1bHi d => cases h; exact .highWrite s .window1Base d
  | wrW1bLo d => cases h; exact .lowWrite s .window1Base d
  | wrW1eHi d => cases h; exact .highWrite s .window1End d
  | wrW1eLo d => cases h; exact .lowWrite s .window1End d
  | wrW2bHi d => cases h; exact .highWrite s .window2Base d
  | wrW2bLo d => cases h; exact .lowWrite s .window2Base d
  | wrCbHi d => cases h; exact .highWrite s .cursorBase d
  | wrCbLo d => cases h; exact .lowWrite s .cursorBase d
  | wrCstart d => cases h; exact .byteWrite .cursorStart d
  | wrCend d => cases h; exact .byteWrite .cursorEnd d
  | wrSctrl d => cases h; exact .byteWrite .screenCtrl d
  | wrUnkStatus d => cases h; exact .byteWrite .unkStatus d
  | wrBell d => cases h; exact .byteWrite .bellCtrl d
  | wrVector d => cases h; exact .driveNothing s _
  | wrUnmapped a d => cases h; exact .driveNothing s _
  | rdUnkStatus => cases h; exact .driveData s _ _
  | rdVector => cases h; exact .readLatch
  | vramCodeWr a d => cases h; exact .codeWrite a d
  | vramAttrWr a d => cases h; exact .attrWrite a d
  | vramCodeRd a => cases h; exact .driveData s _ _
  | vramAttrRd a => cases h; exact .driveData s _ _
  | vblankEdge level =>
    cases level with
    | false => cases h; exact .driveNothing s _
    | true => cases h; exact .event (.vblankEdge true, 0x10) (by simp [Claims.events])
  | kbdIrq => cases h; exact .event (.kbdIrq, 0x14) (by simp [Claims.events])
  | irqAck => cases h; exact .service
  | reset => cases h; exact .reset
  | renderFrame f => cases h; exact .driveOnly _ _ (by simp [Output.plain])
  | powerOn => cases h; exact .powerOn
  | _ => cases h; exact .draw _

theorem event_cases {e : Instr × Byte} (he : e ∈ Claims.events) :
    e = (.vblankEdge true, 0x10) ∨ e = (.kbdIrq, 0x14) := by
  simpa [Claims.events] using he

/-! The queue and the drawn bytes (log 1, 5). -/

/-- Settles O7: no effect touches the queue, and the draw alone counts one up. -/
theorem stimuliLeaveTheQueueAlone : Obligations.StimuliLeaveTheQueueAlone := by
  refine ⟨fun i s t h => ?_, fun s h => ?_⟩
  · cases effect_of_exec h with
    | draw => exact ⟨rfl, .inr rfl⟩
    | _ => simp
  · obtain ⟨-, hIdle⟩ | ⟨w, rest, _, hInbox, -⟩ | ⟨w, rest, _, hInbox, -⟩ := step_cases s
    · exact hIdle
    · rw [h] at hInbox; cases hInbox
    · rw [h] at hInbox; cases hInbox

/-! The writers of each component (10_state.md sections 1 to 4). -/

@[simp] theorem getByte_drive (s : State) (os : List Output) (r : ByteReg) : (s.drive os).getByte r = s.getByte r := by
  cases r <;> rfl

@[simp] theorem getWord_setByte (s : State) (q : WordReg) (r : ByteReg) (v : Byte) :
    (s.setByte r v).getWord q = s.getWord q := by
  cases q <;> simp [State.getWord]

@[simp] theorem getByte_setWord (s : State) (q : ByteReg) (r : WordReg) (v : Half) :
    (s.setWord r v).getByte q = s.getByte q := by
  cases q <;> simp [State.getByte]

/-- A two-phase register is written by its own two ports, and by power-on. -/
theorem Effect.getWord {s t : State} {i : Instr} (h : Effect s i t) (hOn : i ≠ .powerOn) (q : WordReg) :
    t.getWord q = s.getWord q ∨ ∃ d, i = q.highWrite d ∨ i = q.lowWrite d := by
  cases h with
  | wordWrite i r d v os port =>
    by_cases hq : q = r
    · exact .inr ⟨d, hq ▸ port⟩
    · exact .inl (by rw [getWord_drive, getWord_setWord_ne _ q r v hq])
  | byteWrite r d => exact .inl (by simp)
  | powerOn => exact absurd rfl hOn
  | _ => cases q <;> exact .inl rfl

/-- A single-byte register is written by its own write, and by power-on. -/
theorem Effect.getByte {s t : State} {i : Instr} (h : Effect s i t) (hOn : i ≠ .powerOn) (q : ByteReg) :
    t.getByte q = s.getByte q ∨ ∃ d, i = q.write d := by
  cases h with
  | wordWrite => exact .inl (by simp)
  | byteWrite r d =>
    by_cases hq : q = r
    · exact .inr ⟨d, hq ▸ rfl⟩
    · exact .inl (by rw [getByte_drive, getByte_setByte_ne _ q r d hq])
  | powerOn => exact absurd rfl hOn
  | _ => cases q <;> exact .inl rfl

/-- The latch is written by the two events, by its own read and by the resets. -/
theorem Effect.vectorLatch {s t : State} {i : Instr} (h : Effect s i t) (hOn : i ≠ .powerOn) :
    t.vectorLatch = s.vectorLatch ∨ i = .vblankEdge true ∨ i = .kbdIrq ∨ i = .rdVector ∨ i = .reset := by
  cases h with
  | event e he =>
    obtain rfl | rfl := event_cases he
    · simp
    · simp
  | powerOn => exact absurd rfl hOn
  | _ => simp

theorem Effect.codes {s t : State} {i : Instr} (h : Effect s i t) (hOn : i ≠ .powerOn) :
    t.codes = s.codes ∨ ∃ a d, i = .vramCodeWr a d := by
  cases h with
  | codeWrite a d => exact .inr ⟨a, d, rfl⟩
  | powerOn => exact absurd rfl hOn
  | _ => exact .inl (by simp)

theorem Effect.attrs {s t : State} {i : Instr} (h : Effect s i t) (hOn : i ≠ .powerOn) :
    t.attrs = s.attrs ∨ ∃ a d, i = .vramAttrWr a d := by
  cases h with
  | attrWrite a d => exact .inr ⟨a, d, rfl⟩
  | powerOn => exact absurd rfl hOn
  | _ => exact .inl (by simp)

/-- The line after an operation is as it was, or the operation is one of those that drive it. -/
theorem lineAfter_cases (line : Bool) (i : Instr) :
    lineAfter line i = line ∨ (lineAfter line i = true ∧ (i = .vblankEdge true ∨ i = .kbdIrq)) ∨
      (lineAfter line i = false ∧ (i = .irqAck ∨ i = .reset ∨ i = .powerOn)) := by
  unfold lineAfter
  split <;> simp

/-- Settles O16: each component has the writers its own lemma names. -/
theorem eachComponentHasItsOwnWriters : Obligations.EachComponentHasItsOwnWriters := by
  intro i s t h
  by_cases hOn : i = .powerOn
  · exact .inl hOn
  have eff := effect_of_exec h
  have line : t.irqOut = s.irqOut ∨ i = .vblankEdge true ∨ i = .kbdIrq ∨ i = .irqAck ∨ i = .reset := by
    rw [exec_irqOut h]
    have := lineAfter_cases s.irqOut i
    tauto
  exact .inr ⟨eff.getWord hOn .window1Base, eff.getWord hOn .window1End, eff.getWord hOn .window2Base,
    eff.getWord hOn .cursorBase, eff.getByte hOn .cursorStart, eff.getByte hOn .cursorEnd, eff.getByte hOn .screenCtrl,
    eff.getByte hOn .unkStatus, eff.getByte hOn .bellCtrl, eff.vectorLatch hOn, line, eff.codes hOn, eff.attrs hOn⟩

/-! What is driven: the line and the beeper (42_vector_latch.md R186; 40_register_bank.md R114). -/

/-- Settles O22: of the operations that drive the line, these drive it low. -/
theorem onlyServiceOrResetClearsTheLine : Obligations.OnlyServiceOrResetClearsTheLine := by
  intro i s t h hUp hDown
  rw [exec_irqOut h, hUp] at hDown
  obtain hKept | ⟨hRaised, -⟩ | ⟨-, hi⟩ := lineAfter_cases true i
  · rw [hKept] at hDown; cases hDown
  · rw [hRaised] at hDown; cases hDown
  · exact hi

theorem writeOutputs_ne_irq (r : ByteReg) (d : Byte) (b : Bool) : .irq b ∉ r.writeOutputs d := by
  cases r <;> simp [ByteReg.writeOutputs]

/-- Plain outputs hold nothing for the line or the beeper. -/
theorem irq_notMem_of_plain {os : List Output} (plain : ∀ o ∈ os, o.plain) (b : Bool) : .irq b ∉ os :=
  fun h => plain _ h

theorem beep_notMem_of_plain {os : List Output} (plain : ∀ o ∈ os, o.plain) (b : Bool) : .beep b ∉ os :=
  fun h => plain _ h

/-- Settles O23: an effect keeps the line and drives nothing for it, or drives the level it gives it. -/
theorem lineOutputIsTheLine : Obligations.LineOutputIsTheLine := by
  intro i s t h
  cases effect_of_exec h with
  | wordWrite i r d v os port plain => simp [irq_notMem_of_plain plain]
  | byteWrite r d => simp [writeOutputs_ne_irq]
  | driveOnly i os plain => simp [irq_notMem_of_plain plain]
  | _ => simp

/-- Settles O12: the write at 0x60 drives bit 2 of what it stores, power-on drives the beeper low with bell_ctrl 0, and
nothing else drives it or writes bell_ctrl. -/
theorem beeperFollowsLastBellWrite : Obligations.BeeperFollowsLastBellWrite := by
  refine ⟨fun s d => exec_byteWrite .bellCtrl d s, fun i s t h => ⟨?_, ?_⟩⟩
  · by_cases hOn : i = .powerOn
    · exact .inr (.inr hOn)
    · exact ((effect_of_exec h).getByte hOn .bellCtrl).imp_right .inl
  · cases effect_of_exec h with
    | wordWrite i r d v os port plain => simp [beep_notMem_of_plain plain]
    | byteWrite r d => cases r <;> simp [ByteReg.writeOutputs]
    | driveOnly i os plain => simp [beep_notMem_of_plain plain]
    | _ => simp

/-! The invariant (10_state.md R33; log 8). -/

open Sys2Proof.Safety

theorem latchLegal_of_event {e : Instr × Byte} (he : e ∈ Claims.events) : latchLegal e.2 := by
  obtain rfl | rfl := event_cases he
  · exact .inr (.inl rfl)
  · exact .inr (.inr rfl)

/-- Every effect leaves the latch at what it held, at 0x00 or at an event's cause. -/
theorem Effect.keeps_latchLegal {s t : State} {i : Instr} (h : Effect s i t) (hLegal : latchLegal s.vectorLatch) :
    latchLegal t.vectorLatch := by
  cases h with
  | event e he => exact latchLegal_of_event he
  | readLatch => exact .inl rfl
  | reset => exact .inl rfl
  | powerOn => exact .inl rfl
  | _ => simpa using hLegal

/-- Every effect leaves the arrays as they were, empties both, or writes within one. -/
theorem Effect.keeps_memoriesWf {s t : State} {i : Instr} (h : Effect s i t) (hWf : memoriesWf Config.machine s) :
    memoriesWf Config.machine t := by
  obtain ⟨hCodes, hAttrs⟩ := hWf
  cases h with
  | codeWrite a d => exact ⟨Memory.wf_write d (Config.idx_lt _ a) hCodes, hAttrs⟩
  | attrWrite a d => exact ⟨hCodes, Memory.wf_write d (Config.idx_lt _ a) hAttrs⟩
  | powerOn => exact ⟨Memory.wf_nil _ _, Memory.wf_nil _ _⟩
  | _ => simpa [memoriesWf] using ⟨hCodes, hAttrs⟩

theorem exec_keeps_inv {i : Instr} {s t : State} (h : exec i s = .next t) (hInv : Inv s) : Inv t :=
  ⟨(effect_of_exec h).keeps_latchLegal hInv.1, (effect_of_exec h).keeps_memoriesWf hInv.2⟩

/-- Settles O28: a step idles, or runs an operation on the state without its stimulus, of which the invariant says
nothing. -/
theorem stepKeepsLegalLatchAndMemory : Obligations.StepKeepsLegalLatchAndMemory := by
  intro s t hInv h
  obtain ⟨-, hStep⟩ | ⟨w, rest, i, -, -, hStep⟩ | ⟨w, rest, why, -, -, hStep⟩ := step_cases s
  · rw [hStep] at h; cases h; exact hInv
  · rw [hStep] at h; exact exec_keeps_inv h hInv
  · rw [hStep] at h; cases h

/-- Settles O27: 0x00 is legal, and an array with nothing listed is canonical. -/
theorem resetStateHasLegalLatchAndMemory : Obligations.ResetStateHasLegalLatchAndMemory :=
  ⟨.inl rfl, Memory.wf_nil _ _, Memory.wf_nil _ _⟩

end Sys2Proof.Machine
end

section
/-! PROOFS. Steps and bus accesses: the queue of stimuli, the two stimuli of a two-phase write, writes repeated, reads,
resets and the saved registers, and the statements O5, O9, O13 to O15, O18, O20, O21, O24 to O26 and O49. -/

namespace Sys2Proof.Machine

/-! A step on a queue that holds a stimulus (log 1). -/

theorem step_of_decode_ok {s : State} {w : Stimulus} {rest : List Stimulus} {i : Instr} (h : s.inbox = w :: rest)
    (hd : decode w = .ok i) : step s = exec i { s with inbox := rest } := by
  simp only [step, State.takeStimulus, h, hd]

theorem step_of_decode_error {s : State} {w : Stimulus} {rest : List Stimulus} {why : DecodeError}
    (h : s.inbox = w :: rest) (hd : decode w = .error why) : step s = .refused (.reservedStimulus why w.word) := by
  simp only [step, State.takeStimulus, h, hd]

/-- Settles O5: the two answers of the decoder, each with what the step makes of it. -/
theorem stepRunsDecodedStimulus : Obligations.StepRunsDecodedStimulus :=
  fun _ _ _ h => ⟨fun _ hd => step_of_decode_ok h hd, fun _ hd => step_of_decode_error h hd⟩

/-! The two stimuli of a two-phase write (30_encoding.md R83, R88). -/

/-- The state with other stimuli to come. -/
def State.withInbox (s : State) (ws : List Stimulus) : State :=
  { s with inbox := ws }

theorem withInbox_withInbox (s : State) (ws ws' : List Stimulus) :
    (s.withInbox ws).withInbox ws' = s.withInbox ws' := rfl

theorem writeHigh_withInbox (s : State) (ws : List Stimulus) (r : WordReg) (d : Byte) :
    (s.writeHigh r d).withInbox ws = (s.withInbox ws).writeHigh r d := by
  cases r <;> rfl

theorem writeHigh_inbox (s : State) (r : WordReg) (d : Byte) : (s.writeHigh r d).inbox = s.inbox := by
  simp [State.writeHigh]

@[simp] theorem setWord_setWord (s : State) (r : WordReg) (v w : Half) : (s.setWord r v).setWord r w = s.setWord r w := by
  cases r <;> rfl

@[simp] theorem setWord_drive (s : State) (r : WordReg) (v : Half) (os : List Output) :
    (s.drive os).setWord r v = (s.setWord r v).drive os := by
  cases r <;> rfl

/-- The low byte written after the high byte leaves the two side by side. -/
theorem setLowByte_setHighByte (v : Half) (h l : Byte) : setLowByte (setHighByte v h) l = h ++ l := by
  rw [setLowByte_eq, setHighByte_eq, BitVec.extractLsb'_append_eq_left]

theorem highByte_append_lowByte (v : Half) : v.extractLsb' 8 8 ++ v.extractLsb' 0 8 = v := by
  have whole : v.extractLsb' 8 8 ++ v.extractLsb' 0 8 = v.extractLsb' 0 16 :=
    BitVec.extractLsb'_append_extractLsb'_eq_extractLsb' rfl
  rw [whole, BitVec.extractLsb'_eq_self]

/-- A value's high byte and then its low byte, written to a register, leave the value. -/
theorem writeLow_writeHigh (c : Config) (s : State) (r : WordReg) (v : Half) :
    (s.writeHigh r (v.extractLsb' 8 8)).writeLow c r (v.extractLsb' 0 8) =
      (s.setWord r v).drive (commitOutputs c r v) := by
  simp [State.writeHigh, State.writeLow, setLowByte_setHighByte, highByte_append_lowByte]

theorem step_highPort {s : State} {r : WordReg} {d : Byte} {rest : List Stimulus}
    (h : s.inbox = plainStimulus .busWr r.highOffset d :: rest) : step s = .next ((s.withInbox rest).writeHigh r d) :=
  (step_of_decode_ok h (decode_highPort r d 0)).trans (exec_highWrite r d _)

theorem step_lowPort {s : State} {r : WordReg} {d : Byte} {rest : List Stimulus}
    (h : s.inbox = plainStimulus .busWr (r.highOffset + 1) d :: rest) :
    step s = .next ((s.withInbox rest).writeLow Config.machine r d) :=
  (step_of_decode_ok h (decode_lowPort r d 0)).trans (exec_lowWrite r d _)

/-- Settles O9: the pair decodes to the high-port and the low-port write of the register, one step each. -/
theorem twoPhaseRoundTrip : Obligations.TwoPhaseRoundTrip := by
  refine ⟨fun s r v rest h => ?_, fun v h l => ⟨setLowByte_setHighByte v h l, setLowByte_eq v l⟩⟩
  have high := step_highPort (s := s) (rest := _ :: rest) h
  have low := step_lowPort (r := r) (d := v.extractLsb' 0 8)
    (writeHigh_inbox (s.withInbox (_ :: rest)) r (v.extractLsb' 8 8))
  rw [core_run_of_next high, core_run_of_next low, writeHigh_withInbox, withInbox_withInbox, writeLow_writeHigh]
  rfl

/-! Writes repeated at once (20_memory.md R57). -/

/-- The two-phase registers, in the order of 40_register_bank.md R100. -/
def WordReg.all : List WordReg :=
  [.window1Base, .window1End, .window2Base, .cursorBase]

/-- The single-byte registers, in the order of 40_register_bank.md section 2. -/
def ByteReg.all : List ByteReg :=
  [.cursorStart, .cursorEnd, .screenCtrl, .unkStatus, .bellCtrl]

theorem writes_eq (a : Half) (d : Byte) : Claims.writes a d =
    WordReg.all.flatMap (fun r => [r.highWrite d, r.lowWrite d]) ++ ByteReg.all.map (fun r => r.write d) ++
      [.wrVector d, .wrUnmapped a d, .vramCodeWr a d, .vramAttrWr a d] := rfl

/-- A write stimulus writes a register, an array or nothing. -/
theorem writes_cases {a : Half} {d : Byte} {i : Instr} (h : i ∈ Claims.writes a d) :
    (∃ r : WordReg, i = r.highWrite d ∨ i = r.lowWrite d) ∨ (∃ r : ByteReg, i = r.write d) ∨
      (i = .wrVector d ∨ i = .wrUnmapped a d) ∨ i = .vramCodeWr a d ∨ i = .vramAttrWr a d := by
  simp only [writes_eq, List.mem_append, List.mem_flatMap, List.mem_map, List.mem_cons, List.not_mem_nil, or_false] at h
  obtain (⟨r, -, hi⟩ | ⟨r, -, rfl⟩) | rfl | rfl | hi := h
  · exact .inl ⟨r, hi⟩
  · exact .inr (.inl ⟨r, rfl⟩)
  · exact .inr (.inr (.inl (.inl rfl)))
  · exact .inr (.inr (.inl (.inr rfl)))
  · exact .inr (.inr (.inr hi))

@[simp] theorem setHighByte_setHighByte (v : Half) (d : Byte) : setHighByte (setHighByte v d) d = setHighByte v d := by
  rw [setHighByte_eq, setHighByte_eq, BitVec.extractLsb'_append_eq_right]

@[simp] theorem setLowByte_setLowByte (v : Half) (d : Byte) : setLowByte (setLowByte v d) d = setLowByte v d := by
  rw [setLowByte_eq, setLowByte_eq, BitVec.extractLsb'_append_eq_left]

theorem writeHigh_writeHigh (s : State) (r : WordReg) (d : Byte) :
    (s.writeHigh r d).writeHigh r d = s.writeHigh r d := by
  simp [State.writeHigh]

theorem writeLow_writeLow (c : Config) (s : State) (r : WordReg) (d : Byte) :
    (s.writeLow c r d).writeLow c r d = s.writeLow c r d := by
  simp [State.writeLow]

theorem writeByte_writeByte (s : State) (r : ByteReg) (d : Byte) (os : List Output) :
    (s.writeByte r d os).writeByte r d os = s.writeByte r d os := by
  cases r <;> rfl

theorem storeCode_storeCode (c : Config) (s : State) (a : Half) (d : Byte) :
    ((s.storeCode c a d).drive []).storeCode c a d = (s.storeCode c a d).drive [] := by
  simp only [State.storeCode, State.drive, Memory.write_write]

theorem storeAttr_storeAttr (c : Config) (s : State) (a : Half) (d : Byte) :
    ((s.storeAttr c a d).drive []).storeAttr c a d = (s.storeAttr c a d).drive [] := by
  simp only [State.storeAttr, State.drive, Memory.write_write]

theorem exec_vramCodeWr (a : Half) (d : Byte) (s : State) :
    exec (.vramCodeWr a d) s = .next ((s.storeCode Config.machine a d).drive []) := rfl

theorem exec_vramAttrWr (a : Half) (d : Byte) (s : State) :
    exec (.vramAttrWr a d) s = .next ((s.storeAttr Config.machine a d).drive []) := rfl

/-- The state a write leaves is one the same write leaves alone, outputs and all. -/
theorem exec_write_again (s : State) {a : Half} {d : Byte} {i : Instr} (h : i ∈ Claims.writes a d) :
    ∃ t, exec i s = .next t ∧ exec i t = .next t := by
  obtain ⟨r, rfl | rfl⟩ | ⟨r, rfl⟩ | (rfl | rfl) | rfl | rfl := writes_cases h
  · exact ⟨_, exec_highWrite r d s, by rw [exec_highWrite, writeHigh_writeHigh]⟩
  · exact ⟨_, exec_lowWrite r d s, by rw [exec_lowWrite, writeLow_writeLow]⟩
  · exact ⟨_, exec_byteWrite r d s, by rw [exec_byteWrite, writeByte_writeByte]⟩
  · exact ⟨s.drive [], rfl, rfl⟩
  · exact ⟨s.drive [], rfl, rfl⟩
  · exact ⟨_, exec_vramCodeWr a d s, by rw [exec_vramCodeWr, storeCode_storeCode, drive_drive]⟩
  · exact ⟨_, exec_vramAttrWr a d s, by rw [exec_vramAttrWr, storeAttr_storeAttr, drive_drive]⟩

/-- Settles O15: the second write leaves the state of the first alone. -/
theorem repeatedWriteIsOneWrite : Obligations.RepeatedWriteIsOneWrite := by
  intro s a d i hi
  obtain ⟨t, first, second⟩ := exec_write_again s hi
  exact ⟨t, t.outputs, first, second, fun _ => rfl⟩

/-- Settles O14: both meanings drive nothing. -/
theorem unmappedAndVectorWritesChangeNothing : Obligations.UnmappedAndVectorWritesChangeNothing :=
  fun _ _ _ => ⟨rfl, rfl⟩

/-! Reads (20_memory.md R56). -/

theorem exec_drawRead (s : State) {a : Half} {i : Instr} (h : i ∈ Claims.drawReads a) :
    exec i s = .next s.returnDraw := by
  have draws : ∀ i ∈ Claims.drawReads a, exec i s = .next s.returnDraw := by
    simp only [Claims.drawReads, List.forall_mem_cons]
    exact ⟨rfl, rfl, rfl, rfl, rfl, rfl, rfl, rfl, rfl, rfl, rfl, rfl, rfl, by simp⟩
  exact draws i h

/-- Settles O13: each of these reads returns the draw. -/
theorem writeOnlyAndUnmappedReadsReturnADraw : Obligations.WriteOnlyAndUnmappedReadsReturnADraw :=
  fun s _ _ hi => exec_drawRead s hi

theorem exec_vramCodeRd (a : Half) (s : State) :
    exec (.vramCodeRd a) s = .next (s.drive [.data (s.loadCode Config.machine a)]) := rfl

theorem exec_vramAttrRd (a : Half) (s : State) :
    exec (.vramAttrRd a) s = .next (s.drive [.data (s.loadAttr Config.machine a)]) := rfl

/-- A read but the vector's reads a video-memory array or unk_status, or returns a draw. -/
theorem plainReads_cases {a : Half} {i : Instr} (h : i ∈ Claims.plainReads a) :
    i = .rdUnkStatus ∨ i ∈ Claims.drawReads a ∨ i = .vramCodeRd a ∨ i = .vramAttrRd a := by
  have split : Claims.plainReads a = .rdUnkStatus :: (Claims.drawReads a ++ [.vramCodeRd a, .vramAttrRd a]) := rfl
  simpa [split] using h

theorem exec_rdVector_again {s t : State} (h : exec .rdVector s = .next t) :
    exec .rdVector t = .next (t.drive [.data 0x00]) := by
  rw [exec_rdVector] at h
  cases h
  rfl

/-- Settles O20: the port at 0xFFF7 decodes to the read that empties the latch, and the other reads drive a byte. -/
theorem onlyTheVectorReadHasASideEffect : Obligations.OnlyTheVectorReadHasASideEffect := by
  refine ⟨fun d f => ?_, fun s => ⟨exec_rdVector s, fun _ => exec_rdVector_again⟩, fun s a i hi => ?_⟩
  · exact decode_busRd (BusPort.offset .vector) d f
  · obtain rfl | hDraw | rfl | rfl := plainReads_cases hi
    · exact ⟨_, s.draws, exec_rdUnkStatus s⟩
    · exact ⟨_, s.draws + 1, exec_drawRead s hDraw⟩
    · exact ⟨_, s.draws, exec_vramCodeRd a s⟩
    · exact ⟨_, s.draws, exec_vramAttrRd a s⟩

/-! The line, the resets and the saved registers. -/

theorem exec_irqAck (s : State) : exec .irqAck s = .next s.serviceInterrupt := rfl

theorem exec_vblankEdge_false (s : State) : exec (.vblankEdge false) s = .next (s.drive []) := rfl

theorem exec_vblankEdge_true (s : State) : exec (.vblankEdge true) s = .next (s.enterInterrupt vblankCause) := rfl

theorem exec_reset (s : State) : exec .reset s = .next s.machineReset := rfl

theorem exec_powerOn (s : State) : exec .powerOn s = .next s.powerUp := rfl

/-- Settles O18: the falling edge drives nothing, and a rising edge enters the interrupt whatever came before. -/
theorem fallingEdgeDoesNothing : Obligations.FallingEdgeDoesNothing :=
  fun s => ⟨exec_vblankEdge_false s, _, _, exec_vblankEdge_true s, exec_irqAck _, serviceInterrupt_irqOut _, _,
    exec_vblankEdge_true _, enterInterrupt_irqOut _ _⟩

/-- Settles O21: the service leaves the latch, which holds the cause of the event that came before it. -/
theorem serviceClearsLineAndKeepsCause : Obligations.ServiceClearsLineAndKeepsCause := by
  refine ⟨exec_irqAck, fun s e he => ⟨_, _, _, exec_rdVector s, exec_event _ he, exec_irqAck _, ?_, ?_⟩⟩
  · rw [serviceInterrupt_vectorLatch, enterInterrupt_vectorLatch]
  · exact serviceInterrupt_irqOut _

/-- Settles O24: an array with nothing listed reads as VRAM_INIT, and the rest is the definition's list. -/
theorem resetStateIsPowerOnState : Obligations.ResetStateIsPowerOnState :=
  ⟨rfl, rfl, rfl, rfl, rfl, rfl, rfl, rfl, rfl, rfl, rfl, fun _ => ⟨rfl, rfl⟩, rfl, rfl, rfl⟩

/-- Settles O25: power-on's meaning reads nothing of the state but the model's own fields. -/
theorem powerOnForgetsEverything : Obligations.PowerOnForgetsEverything := exec_powerOn

/-- The latch, the line and the outputs have no effect on a frame. -/
theorem renderFrame_machineReset (c : Config) (s : State) (f : Nat) :
    renderFrame c s.machineReset f = renderFrame c s f := rfl

/-- Settles O26: what a reset changes no frame reads. -/
theorem resetKeepsRegistersAndDisplay : Obligations.ResetKeepsRegistersAndDisplay := by
  refine fun s f => ⟨exec_reset s, fun t h => ⟨_, _, exec_renderFrame f s, exec_renderFrame f t, ?_⟩⟩
  rw [exec_reset] at h
  cases h
  rw [drive_outputs, drive_outputs, renderFrame_machineReset]

/-- Settles O49: a snapshot and what it leaves out are together the whole state. -/
theorem savedRegistersSurviveRestore : Obligations.SavedRegistersSurviveRestore :=
  ⟨fun _ => rfl, fun _ _ => rfl⟩

end Sys2Proof.Machine
end

section
/-! PROOFS. Video memory (43_video_memory.md; 20_memory.md section 1) and the statements O29, O30 and O31. -/

namespace Sys2Proof.Machine

/-- With a base that is a whole number of arrays, the index is the address modulo the array's size. -/
theorem idx_eq_mod_of_dvd {c : Config} (h : c.vramSize ∣ c.vramBase.toNat) (a : Half) :
    c.idx a = a.toNat % c.vramSize := by
  obtain ⟨q, hq⟩ := h
  unfold Config.idx
  rw [hq, Int.natCast_mul, Int.sub_mul_emod_self_left]
  exact Int.toNat_natCast _

/-- Settles O29: an index is a remainder, and a remainder by a power of two is a mask. -/
theorem everyAddressHasAnIndex : Obligations.EveryAddressHasAnIndex := by
  refine ⟨Config.idx_lt, fun c a n hSize hBase => ?_⟩
  rw [idx_eq_mod_of_dvd hBase, hSize, Nat.and_two_pow_sub_one_eq_mod]

/-- Settles O30: each write's meaning is one store, read back by its own law. -/
theorem videoWritesStoreOneEntry : Obligations.VideoWritesStoreOneEntry :=
  fun s a d => ⟨⟨_, exec_vramCodeWr a d s, fun b => loadCode_storeCode _ s a b d⟩,
    ⟨_, exec_vramAttrWr a d s, fun b => loadAttr_storeAttr _ s a b d⟩⟩

@[simp] theorem loadCode_drive (c : Config) (s : State) (os : List Output) (a : Half) :
    (s.drive os).loadCode c a = s.loadCode c a := rfl

@[simp] theorem loadAttr_drive (c : Config) (s : State) (os : List Output) (a : Half) :
    (s.drive os).loadAttr c a = s.loadAttr c a := rfl

/-- Settles O31: each read drives the array's byte, and after a store at the same index that is the byte stored. -/
theorem videoReadsReturnLastWrite : Obligations.VideoReadsReturnLastWrite := by
  refine ⟨fun s a => ⟨exec_vramCodeRd a s, exec_vramAttrRd a s⟩, fun s a b d hIdx => ?_⟩
  refine ⟨_, _, _, _, exec_vramCodeWr a d s, exec_vramCodeRd b _, ?_, exec_vramAttrWr a d s, exec_vramAttrRd b _, ?_⟩
  · rw [drive_outputs, loadCode_drive, loadCode_storeCode, if_pos hIdx]
  · rw [drive_outputs, loadAttr_drive, loadAttr_storeAttr, if_pos hIdx]

end Sys2Proof.Machine
end

section
/-! PROOFS. The frame (41_renderer.md): its pixels one by one, what makes two frames equal, and the statements O33, O36
and O40 to O47. -/

namespace Sys2Proof.Machine

/-! The pixels of a frame (41_renderer.md R131, R149). -/

/-- The effective attribute of cell (y, x) (41_renderer.md R137). -/
def effectiveAttr (c : Config) (s : State) (y x : Nat) : Byte :=
  s.loadAttr c (sourceAddress c s y x) ||| Claims.lineAttrAt c s y x

theorem getElem?_shadedRow (c : Config) (s : State) (y : Nat) {x : Nat} (hx : x < 80) :
    (shadedRow c s y)[x]? = some (fetchCell c s y x, effectiveAttr c s y x) := by
  have firstCells : ((List.range 80).map (fetchCell c s y)).take (x + 1) =
      (List.range (x + 1)).map (fetchCell c s y) := by
    rw [← List.map_take, List.take_range, Nat.min_eq_left hx]
  rw [shadedRow, getElem?_shadeCells, firstCells, lineAttrOf_fetchCell, List.getElem?_map, List.getElem?_range hx]
  rfl

/-- A shaded row, cell by cell. -/
theorem shadedRow_eq_map (c : Config) (s : State) (y : Nat) :
    shadedRow c s y = (List.range 80).map (fun x => (fetchCell c s y x, effectiveAttr c s y x)) := by
  refine List.ext_getElem? fun x => ?_
  by_cases hx : x < 80
  · rw [getElem?_shadedRow c s y hx, List.getElem?_map, List.getElem?_range hx]
    rfl
  · rw [List.getElem?_eq_none (by simpa using hx), List.getElem?_eq_none (by simpa using hx)]

/-- The byte of scanline `i` of cell (y, x) of the frame. -/
def frameByte (c : Config) (s : State) (f y x i : Nat) : Byte :=
  scanlineByte c s f y (fetchCell c s y x) (effectiveAttr c s y x) i

theorem getElem?_expandByte (d : Byte) {b : Nat} (hb : b < 6) : (expandByte d)[b]? = some (d.getLsbD (7 - b)) := by
  simp [expandByte, hb]

theorem getElem?_pixelRow (c : Config) (s : State) (f y i : Nat) {x b : Nat} (hx : x < 80) (hb : b < 6) :
    (pixelRow c s f y (shadedRow c s y) i)[6 * x + b]? = some ((frameByte c s f y x i).getLsbD (7 - b)) := by
  rw [pixelRow, getElem?_flatMap_blocks _ 6 (fun _ => length_expandByte _) _ x b hb, getElem?_shadedRow c s y hx]
  exact getElem?_expandByte _ hb

theorem getElem?_renderFrame (c : Config) (s : State) (f : Nat) {y i : Nat} (hy : y < 26) (hi : i < 9) :
    (renderFrame c s f)[9 * y + i]? = some (pixelRow c s f y (shadedRow c s y) i) := by
  rw [renderFrame, getElem?_flatMap_blocks _ 9 (length_cellRow c s f) _ y i hi, List.getElem?_range hy]
  simp [cellRow, hi]

/-! The rule's own loop body (41_renderer.md R148). -/

theorem effBlink_and_blinkOn_iff (f : Nat) (eff : Byte) :
    (effBlink eff && blinkOn f) = true ↔ eff.getLsbD 6 = true ∧ (f &&& 0x20) ≠ 0 := by
  simp [effBlink, blinkOn]

/-- The cursor condition of 41_renderer.md R145, R146. -/
theorem cursorHit_iff (s : State) (f y : Nat) (a : Half) (i : Nat) :
    s.cursorHit f y a i = true ↔
      s.cursorStart.getLsbD 5 = true ∧ a = s.cursorBase ∧ y < 24 ∧ (s.cursorStart &&& 0x0F).toNat ≤ i
        ∧ i < (s.cursorEnd &&& 0x0F).toNat ∧ ¬ (s.screenCtrl.getLsbD 4 = false ∧ (f &&& 0x20) ≠ 0) := by
  simp only [State.cursorHit, State.cursorBlanked, State.cursorVisible, State.cursorFirst, State.cursorStop, State.steady,
    blinkOn, Bool.and_eq_true, beq_iff_eq, decide_eq_true_eq, Bool.not_eq_true', and_assoc]
  simp

theorem cellData_eq (c : Config) (s : State) (f y x i : Nat) : Claims.cellData c s f y x i = frameByte c s f y x i := by
  unfold frameByte scanlineByte globalInvert cursorOverlay sentinelBlank blink underline reverse conceal
  simp only [cursorHit_iff, isSentinel_iff, effBlink_and_blinkOn_iff]
  rfl

/-- Settles O33: the pixel is a bit of the frame's byte, and that byte is the rule's `data`. -/
theorem framePixelsAreTheRuleBody : Obligations.FramePixelsAreTheRuleBody := by
  intro c s f y x i b hy hx hi hb
  rw [getElem?_renderFrame c s f hy hi, cellData_eq]
  exact getElem?_pixelRow c s f y i hx hb

/-! What makes two frames equal: the bytes of their cells. -/

theorem pixelRow_shadedRow (c : Config) (s : State) (f y i : Nat) :
    pixelRow c s f y (shadedRow c s y) i = (List.range 80).flatMap (fun x => expandByte (frameByte c s f y x i)) := by
  rw [pixelRow, shadedRow_eq_map, List.flatMap_map]
  rfl

theorem renderFrame_congr {c c' : Config} {s s' : State} {f f' : Nat}
    (h : ∀ y x i, y < 26 → x < 80 → i < 9 → frameByte c s f y x i = frameByte c' s' f' y x i) :
    renderFrame c s f = renderFrame c' s' f' := by
  refine List.flatMap_congr fun y hy => List.map_congr_left fun i hi => ?_
  rw [pixelRow_shadedRow, pixelRow_shadedRow]
  refine List.flatMap_congr fun x hx => congrArg expandByte ?_
  exact h y x i (List.mem_range.mp hy) (List.mem_range.mp hx) (List.mem_range.mp hi)

/-- Rows fetched alike are shaded alike. -/
theorem effectiveAttr_congr {c c' : Config} {s s' : State} {y : Nat} (h : fetchCell c s y = fetchCell c' s' y) (x : Nat) :
    effectiveAttr c s y x = effectiveAttr c' s' y x := by
  have own : s.loadAttr c (sourceAddress c s y x) = s'.loadAttr c' (sourceAddress c' s' y x) :=
    congrArg Cell.attr (congrFun h x)
  rw [effectiveAttr, effectiveAttr, own, ← lineAttrOf_fetchCell, ← lineAttrOf_fetchCell, h]

/-! Blink (41_renderer.md R138, R143). -/

theorem blinkOn_iff (f : Nat) : blinkOn f = true ↔ (f &&& 0x20) ≠ 0 := by
  simp [blinkOn]

theorem blink_of_off {f : Nat} (h : blinkOn f = false) (eff d : Byte) : blink f eff d = d := by
  simp [blink, h]

theorem blink_of_on {f : Nat} {eff : Byte} (hEff : effBlink eff = true) (h : blinkOn f = true) (d : Byte) :
    blink f eff d = 0x00 := by
  simp [blink, hEff, h]

@[simp] theorem sentinelBlank_zero (code : Byte) : sentinelBlank code 0x00 = 0x00 := by
  simp [sentinelBlank]

theorem conceal_clearBlink (eff d : Byte) : conceal (eff &&& 0xBF) d = conceal eff d := by
  simp [conceal, effConceal]

theorem reverse_clearBlink (eff d : Byte) : reverse (eff &&& 0xBF) d = reverse eff d := by
  simp [reverse, effReverse]

/-- Settles O36: in one phase the blink makes the byte 0x00, which the sentinel blank keeps, and in the other it passes
the byte on, as it does with the bit clear; the steps before it do not read the bit. -/
theorem blinkBlanksEveryOtherPhase : Obligations.BlinkBlanksEveryOtherPhase := by
  intro c s f y cell eff i hBlink hCursor hInvert
  refine ⟨fun hOn => ?_, fun hOff => ?_⟩
  · unfold scanlineByte
    rw [globalInvert_of_clear hInvert, cursorOverlay_of_invisible hCursor, blink_of_on hBlink ((blinkOn_iff f).mpr hOn),
      sentinelBlank_zero]
  · have off : blinkOn f = false := by simp [blinkOn, hOff]
    simp only [scanlineByte, underline, blink_of_off off, conceal_clearBlink, reverse_clearBlink]

/-! The cursor (41_renderer.md R145, R146). -/

/-- The state with `CV`, the cursor-visible bit, clear. -/
def State.hideCursor (s : State) : State :=
  { s with cursorStart := s.cursorStart &&& 0xDF }

theorem hideCursor_cursorVisible (s : State) : s.hideCursor.cursorVisible = false := by
  simp [State.hideCursor, State.cursorVisible]

theorem cursorOverlay_of_hit {s : State} {f y : Nat} {a : Half} {i : Nat} (h : s.cursorHit f y a i = true) (d : Byte) :
    cursorOverlay s f y a i d = 0xFF := if_pos h

theorem cursorOverlay_of_miss {s : State} {f y : Nat} {a : Half} {i : Nat} (h : s.cursorHit f y a i = false) (d : Byte) :
    cursorOverlay s f y a i d = d := by
  simp [cursorOverlay, h]

theorem globalInvert_hideCursor (s : State) (d : Byte) : globalInvert s.hideCursor d = globalInvert s d := rfl

/-- On a scanline with no cursor the byte is that of the hidden cursor. -/
theorem scanlineByte_of_miss (c : Config) {s : State} {f y : Nat} {cell : Cell} (eff : Byte) {i : Nat}
    (h : s.cursorHit f y cell.addr i = false) :
    scanlineByte c s f y cell eff i = scanlineByte c s.hideCursor f y cell eff i := by
  unfold scanlineByte
  rw [cursorOverlay_of_miss h, cursorOverlay_of_invisible (hideCursor_cursorVisible s), globalInvert_hideCursor]

/-- Settles O40: the condition written out is the model's; with it the overlay forgets the byte under it, without it the
overlay is that of no cursor. -/
theorem cursorScanlinesAreLit : Obligations.CursorScanlinesAreLit := by
  intro c s f y cell eff i
  split
  · next hHit =>
    unfold scanlineByte
    rw [cursorOverlay_of_hit ((cursorHit_iff s f y cell.addr i).mpr hHit)]
    split
    · next hSet => exact globalInvert_of_set hSet 0xFF
    · next hClear => exact globalInvert_of_clear (Bool.eq_false_iff.mpr hClear) 0xFF
  · next hMiss =>
    exact scanlineByte_of_miss c eff (Bool.eq_false_iff.mpr fun h => hMiss ((cursorHit_iff s f y cell.addr i).mp h))

/-- Settles O41: each of the three conditions leaves no scanline of a text cell for the cursor to hit. -/
theorem degenerateCursorIsHidden : Obligations.DegenerateCursorIsHidden := by
  intro s f hDegenerate
  have hidden : renderFrame Config.machine s f = renderFrame Config.machine s.hideCursor f := by
    refine renderFrame_congr fun y x i _ hx hi => scanlineByte_of_miss _ _ (Bool.eq_false_iff.mpr fun h => ?_)
    obtain ⟨-, hBase, hy, hFirst, hStop, -⟩ := (cursorHit_iff s f y _ i).mp h
    obtain hEmpty | hBelow | hNowhere := hDegenerate
    · omega
    · omega
    · exact hNowhere y x hy hx hBase
  rw [exec_renderFrame, hidden]
  rfl

/-! The frame number (41_renderer.md R138; 30_encoding.md R82). -/

/-- The frame number matters by its blink phase. -/
theorem scanlineByte_congr_phase {f g : Nat} (h : blinkOn f = blinkOn g) (c : Config) (s : State) (y : Nat) (cell : Cell)
    (eff : Byte) (i : Nat) : scanlineByte c s f y cell eff i = scanlineByte c s g y cell eff i := by
  unfold scanlineByte cursorOverlay State.cursorHit State.cursorBlanked blink
  rw [h]

/-- `F & 0x20` is the bit of weight 32. -/
theorem and_32_eq (f : Nat) : f &&& 0x20 = f / 32 % 2 * 32 := by
  have bit : f &&& 0x20 = (f.testBit 5).toNat * 2 ^ 5 := Nat.and_two_pow f 5
  rw [bit, Nat.toNat_testBit]
  rfl

/-- Settles O42: the phase is the bit of weight 32, and the bytes of a frame read the phase only. -/
theorem frameNumberMattersByOneBit : Obligations.FrameNumberMattersByOneBit := by
  refine ⟨fun c s f g h => ?_, fun f => ?_⟩
  · have phase : blinkOn f = blinkOn g := by rw [blinkOn, h, blinkOn]
    exact renderFrame_congr fun y _ i _ _ _ => scanlineByte_congr_phase phase c s y _ _ i
  · simp only [and_32_eq]
    omega

theorem cursorBlanked_of_steady {s : State} (h : s.steady = true) (f : Nat) : s.cursorBlanked f = false := by
  simp [State.cursorBlanked, h]

theorem scanlineByte_congr_of_steady {s : State} (hSteady : s.steady = true) {eff : Byte} (hEff : effBlink eff = false)
    (c : Config) (f g y : Nat) (cell : Cell) (i : Nat) :
    scanlineByte c s f y cell eff i = scanlineByte c s g y cell eff i := by
  simp only [scanlineByte, cursorOverlay, State.cursorHit, cursorBlanked_of_steady hSteady, blink_of_clear hEff]

/-- Where no attribute has the blink bit, no line attribute has it, nor the two together. -/
theorem effBlink_effectiveAttr {c : Config} {s : State} (h : ∀ a : Half, (s.loadAttr c a).getLsbD 6 = false) (y x : Nat) :
    effBlink (effectiveAttr c s y x) = false := by
  have line : (Claims.lineAttrAt c s y x).getLsbD 6 = false := by
    unfold Claims.lineAttrAt
    split
    · exact h _
    · rfl
  rw [effBlink, effectiveAttr, BitVec.getLsbD_or, h, line]
  rfl

/-- Settles O43: with neither the cursor nor an attribute blinking, no step of the pipeline reads the frame number. -/
theorem steadyCursorIgnoresFrameNumber : Obligations.SteadyCursorIgnoresFrameNumber :=
  fun c _ f g hSteady hAttrs => renderFrame_congr fun y x i _ _ _ =>
    scanlineByte_congr_of_steady hSteady (effBlink_effectiveAttr hAttrs y x) c f g y _ i

/-! The split and the source addresses (41_renderer.md R132, R133). -/

/-- `k` whole steps and a part of one, divided by the step, are `k`. -/
theorem truncDiv_mul_add {d k r : Nat} (h : r < d) : truncDiv (d * k + r : Nat) d = k := by
  rw [truncDiv, ← Int.ofNat_tdiv, Nat.mul_add_div (by omega), Nat.div_eq_of_lt h, Nat.add_zero]

theorem truncDiv_neg (n d : Int) : truncDiv (-n) d = -truncDiv n d :=
  Int.neg_tdiv n d

/-- Settles O44: the difference of the bases is `k` rows and a part of one, or the negative of that. -/
theorem splitCountsWholeRows : Obligations.SplitCountsWholeRows := by
  intro s k r hr
  have rows : truncDiv ((80 * k + r : Nat) : Int) 80 = k := truncDiv_mul_add hr
  refine ⟨fun hAbove => ?_, fun hBelow => ?_⟩
  · have difference : (s.window2Base.toNat : Int) - s.window1Base.toNat = (80 * k + r : Nat) := by omega
    rw [State.split, difference, rows]
  · have difference : (s.window2Base.toNat : Int) - s.window1Base.toNat = -(80 * k + r : Nat) := by omega
    rw [State.split, difference, truncDiv_neg, rows, Int.sub_neg]

theorem sourceAddress_of_lt_split (c : Config) {s : State} {y : Nat} (hy : y < 24) (h : (y : Int) < s.split) (x : Nat) :
    sourceAddress c s y x = s.window2Base + BitVec.ofNat 16 (80 * y + x) := by
  rw [sourceAddress, if_pos ⟨hy, h⟩, Nat.mul_comm]

theorem sourceAddress_of_split_add (c : Config) {s : State} {y k : Nat} (hy : y < 24) (h : (y : Int) = s.split + k)
    (x : Nat) : sourceAddress c s y x = s.window1Base + BitVec.ofNat 16 (80 * k + x) := by
  have row : ((y : Int) - s.split) * 80 + x = (80 * k + x : Nat) := by omega
  rw [sourceAddress, if_neg (by omega), if_pos hy, row, BitVec.ofInt_natCast]

theorem sourceAddress_status (c : Config) (s : State) (k x : Nat) :
    sourceAddress c s (24 + k) x = c.statusBase + BitVec.ofNat 16 (80 * k + x) := by
  rw [sourceAddress, if_neg (by omega), if_neg (by omega), Nat.add_sub_cancel_left, Nat.mul_comm]

/-- Settles O45: the cases of the source address; a split at either end leaves the text rows to one of them. -/
theorem rowsComeFromTheirWindows : Obligations.RowsComeFromTheirWindows := by
  intro c s y x _
  refine ⟨?_, ?_, ?_, ?_, ?_, ?_⟩
  · exact fun hy h => sourceAddress_of_lt_split c hy h x
  · exact fun k hy h => sourceAddress_of_split_add c hy h x
  · exact fun hSplit hy => sourceAddress_of_lt_split c hy (by omega) x
  · exact fun k hSplit hy => sourceAddress_of_split_add c hy (by omega) x
  · rintro rfl
    simpa using sourceAddress_status c s 0 x
  · rintro rfl
    exact sourceAddress_status c s 1 x

/-! The glyph store (41_renderer.md R139). -/

theorem shiftLeft_four (n : Nat) : n <<< 4 = 16 * n := by
  rw [Nat.shiftLeft_eq, Nat.mul_comm]

/-- The bank's offset and an index below its size have no bit in common. -/
theorem bankOffset_or {n : Nat} (h : n < 0x1000) (v : Variant) : v.bankOffset ||| n = v.bankOffset + n := by
  cases v with
  | rom8k => simp [Variant.bankOffset]
  | rom16k => exact (Nat.two_pow_add_eq_or_of_lt (i := 13) (by omega) 1).symm

theorem glyphIndex_eq (v : Variant) (code : Byte) {i : Nat} (hi : i < 16) :
    glyphIndex v code i = v.bankOffset + 16 * code.toNat + i := by
  have hCode := code.isLt
  rw [glyphIndex, shiftLeft_four, bankOffset_or (by omega), Nat.add_assoc]

/-- The bank of a variant, 0x1000 bytes, lies within its store. -/
theorem bank_le_storeSize (v : Variant) : v.bankOffset + 0x1000 ≤ v.storeSize := by
  cases v <;> decide

theorem scanlineByte_congr_glyph {c c' : Config} {cell : Cell} {i : Nat}
    (h : glyphByte c cell.code i = glyphByte c' cell.code i) (s : State) (f y : Nat) (eff : Byte) :
    scanlineByte c s f y cell eff i = scanlineByte c' s f y cell eff i := by
  rw [scanlineByte, h, scanlineByte]

/-- Settles O46: as no bits meet, both forms are the sum of bank, code and scanline, and a frame reads no glyph byte at
another index. -/
theorem glyphFetchesStayInTheBank : Obligations.GlyphFetchesStayInTheBank := by
  refine ⟨fun v code i hi => ?_, fun c g s f h => ?_⟩
  · have hCode := code.isLt
    have hBank := bank_le_storeSize v
    rw [glyphIndex_eq v code (by omega), shiftLeft_four, bankOffset_or (by omega)]
    omega
  · refine renderFrame_congr fun y x i _ _ hi => scanlineByte_congr_glyph ?_ s f y _
    have index (code : Byte) := glyphIndex_eq c.variant code (show i < 16 by omega)
    rw [glyphByte, glyphByte, index]
    exact h _ i hi

/-! The state a frame reads (10_state.md R25, R28 to R34). -/

theorem cursorVisible_eq (s : State) : s.cursorVisible = (s.cursorStart &&& 0x2F).getLsbD 5 := by
  simp [State.cursorVisible]

theorem cursorFirst_eq (s : State) : s.cursorFirst = (s.cursorStart &&& 0x2F &&& 0x0F).toNat := by
  rw [BitVec.and_assoc]
  rfl

theorem steady_eq (s : State) : s.steady = (s.screenCtrl &&& 0x30).getLsbD 4 := by
  simp [State.steady]

theorem invert_eq (s : State) : s.invert = (s.screenCtrl &&& 0x30).getLsbD 5 := by
  simp [State.invert]

/-- Settles O47: the cells are fetched alike, and the cursor and the invert read no other bit. -/
theorem frameReadsOnlyTheDefinedBits : Obligations.FrameReadsOnlyTheDefinedBits := by
  intro c s t f hW1 hW2 hBase hStart hEnd hCtrl hMem
  have split : s.split = t.split := by rw [State.split, hW1, hW2, State.split]
  have address (y x : Nat) : sourceAddress c s y x = sourceAddress c t y x := by
    rw [sourceAddress, split, hW1, hW2, sourceAddress]
  have cells (y : Nat) : fetchCell c s y = fetchCell c t y := by
    funext x
    simp only [fetchCell, address, hMem]
  have visible : s.cursorVisible = t.cursorVisible := by rw [cursorVisible_eq, hStart, cursorVisible_eq]
  have first : s.cursorFirst = t.cursorFirst := by rw [cursorFirst_eq, hStart, cursorFirst_eq]
  have stop : s.cursorStop = t.cursorStop := by rw [State.cursorStop, hEnd, State.cursorStop]
  have steady : s.steady = t.steady := by rw [steady_eq, hCtrl, steady_eq]
  have hit (y : Nat) (a : Half) (i : Nat) : s.cursorHit f y a i = t.cursorHit f y a i := by
    rw [State.cursorHit, State.cursorBlanked, visible, first, stop, steady, hBase, State.cursorHit, State.cursorBlanked]
  have invert : s.invert = t.invert := by rw [invert_eq, hCtrl, invert_eq]
  refine renderFrame_congr fun y x i _ _ _ => ?_
  simp only [frameByte, effectiveAttr_congr (cells y), cells, scanlineByte, cursorOverlay, hit, globalInvert, invert]

end Sys2Proof.Machine
end
